-- ==== Sys2Proof/Word.lean ====
section
/-! DEFINITION. The word types of the TSC691E (rules R9, R12): bit 0 is the least significant bit. -/

namespace Sys2Proof

/-- A register, address or instruction word (rule R9). -/
abbrev Word := BitVec 32

/-- The smallest addressable unit of memory (rule R80). -/
abbrev Byte := BitVec 8

/-- The number n of a visible register r[n], or of an f or c register (rule R21). -/
abbrev RegNum := BitVec 5

/-- An address space identifier (rule R80). -/
abbrev Asi := BitVec 8

/-- A register window number, 0 to 7 (rule R22); its arithmetic is modulo 8. -/
abbrev Window := BitVec 3

end Sys2Proof
end

