-- ==== Sys2Proof/Config.lean ====
section
/-! DEFINITION. What an implementation or a system fixes (rule R10 and 92_eei_decisions.md Part 2), and the
free values: constants without a body that stand for what the spec leaves open. -/

namespace Sys2Proof

/-- The base of PC-relative targets (rule R292, decision D1, conflict C1). -/
inductive BranchBase where
  /-- The address of the branch or CALL itself. -/
  | pc
  /-- That address + 4, the source's literal wording. -/
  | pcPlus4
deriving DecidableEq, Repr

/-- The static configuration of rule R10: pins and hardwired values that do not change while running. -/
structure Params where
  /-- PSR.impl, 4 bits (rule R41). -/
  impl : BitVec 4
  /-- PSR.ver, 4 bits (rule R41). -/
  ver : BitVec 4
  /-- Pin FP is LOW: an FPU is connected. -/
  fpPresent : Bool
  /-- Pin CP is LOW: a coprocessor is connected. -/
  cpPresent : Bool
  /-- Pin IFT is LOW: IFLUSH traps (rule R381). -/
  iftAsserted : Bool
  /-- Pin FLOW is LOW: Program Flow Control is active (rule R460). -/
  flowEnabled : Bool
  /-- Pin 601MODE is HIGH: the parity of input pins is checked (rule R455). -/
  parityInCheck : Bool
  /-- Pin CMODE is asserted: this chip is a checker and drives no bus (rule R472). -/
  checker : Bool
  /-- PFC_TAG6, what the six high bits of a checking SETHI's constant must be; not zero (rules R10, R462, R466). -/
  pfcTag6 : BitVec 6
  /-- The base of PC-relative targets (rule R292). -/
  branchBase : BranchBase
deriving DecidableEq, Repr

/-- The JTAG device identification register (rules R4, R476); no instruction reads it. -/
def Config.idcode : Word := 0x0b6400b1#32

/-- The n-th free word: a value the spec leaves open. Nothing constrains it. -/
opaque Config.freeWord : Nat → Word

/-- The n-th free choice between two outcomes the spec allows. -/
opaque Config.freeBit : Nat → Bool

/-- The place of the fcc field in the FSR: its low bit, the high one is next above (rules R360, R368). That the two bits lie
side by side is DEDUCED; where they lie is not in the spec (N9, log 35). -/
opaque Config.fccLow : Fin 31

/-- The place of the condition-code field in the CSR (rules R360, R378, N9, U2, log 35). -/
opaque Config.cccLow : Fin 31

/-- The c registers that a CPop word writes, as a mask: the implementation's (U2, log 25). -/
opaque Config.cpopWrites : Word → Word

/-- The c registers that a CPop word reads, as a mask: the implementation's (U2, log 25). -/
opaque Config.cpopReads : Word → Word

/-- A CPop word is a compare, which sets CCC: the implementation's (U2, log 25). -/
opaque Config.cpopSetsCc : Word → Bool

end Sys2Proof
end

