-- ==== Sys2Proof/Syntax.lean ====
section
/-! DEFINITION. The instructions: one constructor per row of spec/opcode_table.json, in the table's order. A field the
spec calls ignored (rule R138) is no part of the syntax; every other field is. -/

namespace Sys2Proof

/-- The second operand of a format-3 instruction (rule R140). -/
inductive Operand2 where
  /-- i = 0: r[rs2]. -/
  | reg (rs2 : RegNum)
  /-- i = 1: the sign-extended 13-bit constant. -/
  | imm (simm13 : BitVec 13)
deriving DecidableEq, Repr

/-- The shift count operand of SLL, SRL and SRA (rule R142). -/
inductive ShiftCount where
  /-- i = 0: the low five bits of r[rs2]. -/
  | reg (rs2 : RegNum)
  /-- i = 1: shcnt. -/
  | imm (shcnt : BitVec 5)
deriving DecidableEq, Repr

/-- Every instruction of the opcode table (rules R146 to R153). -/
inductive Instr where
  /-- UNIMP, rule R380. -/
  | unimp (const22 : BitVec 22)
  /-- SETHI, rule R240. -/
  | sethi (rd : RegNum) (imm22 : BitVec 22)
  /-- BN, rule R300. -/
  | bn (a : Bool) (disp22 : BitVec 22)
  /-- BE, rule R300. -/
  | be (a : Bool) (disp22 : BitVec 22)
  /-- BLE, rule R300. -/
  | ble (a : Bool) (disp22 : BitVec 22)
  /-- BL, rule R300. -/
  | bl (a : Bool) (disp22 : BitVec 22)
  /-- BLEU, rule R300. -/
  | bleu (a : Bool) (disp22 : BitVec 22)
  /-- BCS, rule R300. -/
  | bcs (a : Bool) (disp22 : BitVec 22)
  /-- BNEG, rule R300. -/
  | bneg (a : Bool) (disp22 : BitVec 22)
  /-- BVS, rule R300. -/
  | bvs (a : Bool) (disp22 : BitVec 22)
  /-- BA, rule R300. -/
  | ba (a : Bool) (disp22 : BitVec 22)
  /-- BNE, rule R300. -/
  | bne (a : Bool) (disp22 : BitVec 22)
  /-- BG, rule R300. -/
  | bg (a : Bool) (disp22 : BitVec 22)
  /-- BGE, rule R300. -/
  | bge (a : Bool) (disp22 : BitVec 22)
  /-- BGU, rule R300. -/
  | bgu (a : Bool) (disp22 : BitVec 22)
  /-- BCC, rule R300. -/
  | bcc (a : Bool) (disp22 : BitVec 22)
  /-- BPOS, rule R300. -/
  | bpos (a : Bool) (disp22 : BitVec 22)
  /-- BVC, rule R300. -/
  | bvc (a : Bool) (disp22 : BitVec 22)
  /-- FBN, rule R304. -/
  | fbn (a : Bool) (disp22 : BitVec 22)
  /-- FBNE, rule R304. -/
  | fbne (a : Bool) (disp22 : BitVec 22)
  /-- FBLG, rule R304. -/
  | fblg (a : Bool) (disp22 : BitVec 22)
  /-- FBUL, rule R304. -/
  | fbul (a : Bool) (disp22 : BitVec 22)
  /-- FBL, rule R304. -/
  | fbl (a : Bool) (disp22 : BitVec 22)
  /-- FBUG, rule R304. -/
  | fbug (a : Bool) (disp22 : BitVec 22)
  /-- FBG, rule R304. -/
  | fbg (a : Bool) (disp22 : BitVec 22)
  /-- FBU, rule R304. -/
  | fbu (a : Bool) (disp22 : BitVec 22)
  /-- FBA, rule R304. -/
  | fba (a : Bool) (disp22 : BitVec 22)
  /-- FBE, rule R304. -/
  | fbe (a : Bool) (disp22 : BitVec 22)
  /-- FBUE, rule R304. -/
  | fbue (a : Bool) (disp22 : BitVec 22)
  /-- FBGE, rule R304. -/
  | fbge (a : Bool) (disp22 : BitVec 22)
  /-- FBUGE, rule R304. -/
  | fbuge (a : Bool) (disp22 : BitVec 22)
  /-- FBLE, rule R304. -/
  | fble (a : Bool) (disp22 : BitVec 22)
  /-- FBULE, rule R304. -/
  | fbule (a : Bool) (disp22 : BitVec 22)
  /-- FBO, rule R304. -/
  | fbo (a : Bool) (disp22 : BitVec 22)
  /-- CBN, rule R306. -/
  | cbn (a : Bool) (disp22 : BitVec 22)
  /-- CB123, rule R306. -/
  | cb123 (a : Bool) (disp22 : BitVec 22)
  /-- CB12, rule R306. -/
  | cb12 (a : Bool) (disp22 : BitVec 22)
  /-- CB13, rule R306. -/
  | cb13 (a : Bool) (disp22 : BitVec 22)
  /-- CB1, rule R306. -/
  | cb1 (a : Bool) (disp22 : BitVec 22)
  /-- CB23, rule R306. -/
  | cb23 (a : Bool) (disp22 : BitVec 22)
  /-- CB2, rule R306. -/
  | cb2 (a : Bool) (disp22 : BitVec 22)
  /-- CB3, rule R306. -/
  | cb3 (a : Bool) (disp22 : BitVec 22)
  /-- CBA, rule R306. -/
  | cba (a : Bool) (disp22 : BitVec 22)
  /-- CB0, rule R306. -/
  | cb0 (a : Bool) (disp22 : BitVec 22)
  /-- CB03, rule R306. -/
  | cb03 (a : Bool) (disp22 : BitVec 22)
  /-- CB02, rule R306. -/
  | cb02 (a : Bool) (disp22 : BitVec 22)
  /-- CB023, rule R306. -/
  | cb023 (a : Bool) (disp22 : BitVec 22)
  /-- CB01, rule R306. -/
  | cb01 (a : Bool) (disp22 : BitVec 22)
  /-- CB013, rule R306. -/
  | cb013 (a : Bool) (disp22 : BitVec 22)
  /-- CB012, rule R306. -/
  | cb012 (a : Bool) (disp22 : BitVec 22)
  /-- CALL, rule R310. -/
  | call (disp30 : BitVec 30)
  /-- ADD, rule R256. -/
  | add (rd rs1 : RegNum) (op2 : Operand2)
  /-- AND, rule R241. -/
  | and (rd rs1 : RegNum) (op2 : Operand2)
  /-- OR, rule R245. -/
  | or (rd rs1 : RegNum) (op2 : Operand2)
  /-- XOR, rule R249. -/
  | xor (rd rs1 : RegNum) (op2 : Operand2)
  /-- SUB, rule R260. -/
  | sub (rd rs1 : RegNum) (op2 : Operand2)
  /-- ANDN, rule R243. -/
  | andn (rd rs1 : RegNum) (op2 : Operand2)
  /-- ORN, rule R247. -/
  | orn (rd rs1 : RegNum) (op2 : Operand2)
  /-- XNOR, rule R251. -/
  | xnor (rd rs1 : RegNum) (op2 : Operand2)
  /-- ADDX, rule R258. -/
  | addx (rd rs1 : RegNum) (op2 : Operand2)
  /-- SUBX, rule R262. -/
  | subx (rd rs1 : RegNum) (op2 : Operand2)
  /-- ADDcc, rule R257. -/
  | addcc (rd rs1 : RegNum) (op2 : Operand2)
  /-- ANDcc, rule R242. -/
  | andcc (rd rs1 : RegNum) (op2 : Operand2)
  /-- ORcc, rule R246. -/
  | orcc (rd rs1 : RegNum) (op2 : Operand2)
  /-- XORcc, rule R250. -/
  | xorcc (rd rs1 : RegNum) (op2 : Operand2)
  /-- SUBcc, rule R261. -/
  | subcc (rd rs1 : RegNum) (op2 : Operand2)
  /-- ANDNcc, rule R244. -/
  | andncc (rd rs1 : RegNum) (op2 : Operand2)
  /-- ORNcc, rule R248. -/
  | orncc (rd rs1 : RegNum) (op2 : Operand2)
  /-- XNORcc, rule R252. -/
  | xnorcc (rd rs1 : RegNum) (op2 : Operand2)
  /-- ADDXcc, rule R259. -/
  | addxcc (rd rs1 : RegNum) (op2 : Operand2)
  /-- SUBXcc, rule R263. -/
  | subxcc (rd rs1 : RegNum) (op2 : Operand2)
  /-- TADDcc, rule R264. -/
  | taddcc (rd rs1 : RegNum) (op2 : Operand2)
  /-- TSUBcc, rule R265. -/
  | tsubcc (rd rs1 : RegNum) (op2 : Operand2)
  /-- TADDccTV, rule R266. -/
  | taddcctv (rd rs1 : RegNum) (op2 : Operand2)
  /-- TSUBccTV, rule R267. -/
  | tsubcctv (rd rs1 : RegNum) (op2 : Operand2)
  /-- MULScc, rule R270. -/
  | mulscc (rd rs1 : RegNum) (op2 : Operand2)
  /-- SLL, rule R253. -/
  | sll (rd rs1 : RegNum) (cnt : ShiftCount)
  /-- SRL, rule R254. -/
  | srl (rd rs1 : RegNum) (cnt : ShiftCount)
  /-- SRA, rule R255. -/
  | sra (rd rs1 : RegNum) (cnt : ShiftCount)
  /-- RDY, rule R340. -/
  | rdy (rd : RegNum)
  /-- RDPSR, rule R341. -/
  | rdpsr (rd : RegNum)
  /-- RDWIM, rule R342. -/
  | rdwim (rd : RegNum)
  /-- RDTBR, rule R343. -/
  | rdtbr (rd : RegNum)
  /-- WRY, rule R345. -/
  | wry (rs1 : RegNum) (op2 : Operand2)
  /-- WRPSR, rule R346. -/
  | wrpsr (rs1 : RegNum) (op2 : Operand2)
  /-- WRWIM, rule R348. -/
  | wrwim (rs1 : RegNum) (op2 : Operand2)
  /-- WRTBR, rule R349. -/
  | wrtbr (rs1 : RegNum) (op2 : Operand2)
  /-- FPop1, rule R364. -/
  | fpop1 (rd rs1 : RegNum) (opf : BitVec 9) (rs2 : RegNum)
  /-- FMOVs, rule R364. -/
  | fmovs (rd rs1 rs2 : RegNum)
  /-- FNEGs, rule R364. -/
  | fnegs (rd rs1 rs2 : RegNum)
  /-- FABSs, rule R364. -/
  | fabss (rd rs1 rs2 : RegNum)
  /-- FSQRTs, rule R364. -/
  | fsqrts (rd rs1 rs2 : RegNum)
  /-- FSQRTd, rule R364. -/
  | fsqrtd (rd rs1 rs2 : RegNum)
  /-- FSQRTx, rule R364. -/
  | fsqrtx (rd rs1 rs2 : RegNum)
  /-- FADDs, rule R364. -/
  | fadds (rd rs1 rs2 : RegNum)
  /-- FADDd, rule R364. -/
  | faddd (rd rs1 rs2 : RegNum)
  /-- FADDx, rule R364. -/
  | faddx (rd rs1 rs2 : RegNum)
  /-- FSUBs, rule R364. -/
  | fsubs (rd rs1 rs2 : RegNum)
  /-- FSUBd, rule R364. -/
  | fsubd (rd rs1 rs2 : RegNum)
  /-- FSUBx, rule R364. -/
  | fsubx (rd rs1 rs2 : RegNum)
  /-- FMULs, rule R364. -/
  | fmuls (rd rs1 rs2 : RegNum)
  /-- FMULd, rule R364. -/
  | fmuld (rd rs1 rs2 : RegNum)
  /-- FMULx, rule R364. -/
  | fmulx (rd rs1 rs2 : RegNum)
  /-- FDIVs, rule R364. -/
  | fdivs (rd rs1 rs2 : RegNum)
  /-- FDIVd, rule R364. -/
  | fdivd (rd rs1 rs2 : RegNum)
  /-- FDIVx, rule R364. -/
  | fdivx (rd rs1 rs2 : RegNum)
  /-- FiTOs, rule R364. -/
  | fitos (rd rs1 rs2 : RegNum)
  /-- FdTOs, rule R364. -/
  | fdtos (rd rs1 rs2 : RegNum)
  /-- FxTOs, rule R364. -/
  | fxtos (rd rs1 rs2 : RegNum)
  /-- FiTOd, rule R364. -/
  | fitod (rd rs1 rs2 : RegNum)
  /-- FsTOd, rule R364. -/
  | fstod (rd rs1 rs2 : RegNum)
  /-- FxTOd, rule R364. -/
  | fxtod (rd rs1 rs2 : RegNum)
  /-- FiTOx, rule R364. -/
  | fitox (rd rs1 rs2 : RegNum)
  /-- FsTOx, rule R364. -/
  | fstox (rd rs1 rs2 : RegNum)
  /-- FdTOx, rule R364. -/
  | fdtox (rd rs1 rs2 : RegNum)
  /-- FsTOi, rule R364. -/
  | fstoi (rd rs1 rs2 : RegNum)
  /-- FdTOi, rule R364. -/
  | fdtoi (rd rs1 rs2 : RegNum)
  /-- FxTOi, rule R364. -/
  | fxtoi (rd rs1 rs2 : RegNum)
  /-- FPop2, rule R365. -/
  | fpop2 (rd rs1 : RegNum) (opf : BitVec 9) (rs2 : RegNum)
  /-- FCMPs, rule R365. -/
  | fcmps (rd rs1 rs2 : RegNum)
  /-- FCMPd, rule R365. -/
  | fcmpd (rd rs1 rs2 : RegNum)
  /-- FCMPx, rule R365. -/
  | fcmpx (rd rs1 rs2 : RegNum)
  /-- FCMPEs, rule R365. -/
  | fcmpes (rd rs1 rs2 : RegNum)
  /-- FCMPEd, rule R365. -/
  | fcmped (rd rs1 rs2 : RegNum)
  /-- FCMPEx, rule R365. -/
  | fcmpex (rd rs1 rs2 : RegNum)
  /-- CPop1, rule R373. -/
  | cpop1 (rd rs1 : RegNum) (opc : BitVec 9) (rs2 : RegNum)
  /-- CPop2, rule R374. -/
  | cpop2 (rd rs1 : RegNum) (opc : BitVec 9) (rs2 : RegNum)
  /-- JMPL, rule R318. -/
  | jmpl (rd rs1 : RegNum) (op2 : Operand2)
  /-- RETT, rule R320. -/
  | rett (rs1 : RegNum) (op2 : Operand2)
  /-- TN, rule R325. -/
  | tn (rs1 : RegNum) (op2 : Operand2)
  /-- TE, rule R325. -/
  | te (rs1 : RegNum) (op2 : Operand2)
  /-- TLE, rule R325. -/
  | tle (rs1 : RegNum) (op2 : Operand2)
  /-- TL, rule R325. -/
  | tl (rs1 : RegNum) (op2 : Operand2)
  /-- TLEU, rule R325. -/
  | tleu (rs1 : RegNum) (op2 : Operand2)
  /-- TCS, rule R325. -/
  | tcs (rs1 : RegNum) (op2 : Operand2)
  /-- TNEG, rule R325. -/
  | tneg (rs1 : RegNum) (op2 : Operand2)
  /-- TVS, rule R325. -/
  | tvs (rs1 : RegNum) (op2 : Operand2)
  /-- TA, rule R325. -/
  | ta (rs1 : RegNum) (op2 : Operand2)
  /-- TNE, rule R325. -/
  | tne (rs1 : RegNum) (op2 : Operand2)
  /-- TG, rule R325. -/
  | tg (rs1 : RegNum) (op2 : Operand2)
  /-- TGE, rule R325. -/
  | tge (rs1 : RegNum) (op2 : Operand2)
  /-- TGU, rule R325. -/
  | tgu (rs1 : RegNum) (op2 : Operand2)
  /-- TCC, rule R325. -/
  | tcc (rs1 : RegNum) (op2 : Operand2)
  /-- TPOS, rule R325. -/
  | tpos (rs1 : RegNum) (op2 : Operand2)
  /-- TVC, rule R325. -/
  | tvc (rs1 : RegNum) (op2 : Operand2)
  /-- IFLUSH, rule R381. -/
  | iflush (rs1 : RegNum) (op2 : Operand2)
  /-- SAVE, rule R280. -/
  | save (rd rs1 : RegNum) (op2 : Operand2)
  /-- RESTORE, rule R281. -/
  | restore (rd rs1 : RegNum) (op2 : Operand2)
  /-- LD, rule R180. -/
  | ld (rd rs1 : RegNum) (op2 : Operand2)
  /-- LDUB, rule R182. -/
  | ldub (rd rs1 : RegNum) (op2 : Operand2)
  /-- LDUH, rule R184. -/
  | lduh (rd rs1 : RegNum) (op2 : Operand2)
  /-- LDD, rule R186. -/
  | ldd (rd rs1 : RegNum) (op2 : Operand2)
  /-- ST, rule R190. -/
  | st (rd rs1 : RegNum) (op2 : Operand2)
  /-- STB, rule R191. -/
  | stb (rd rs1 : RegNum) (op2 : Operand2)
  /-- STH, rule R192. -/
  | sth (rd rs1 : RegNum) (op2 : Operand2)
  /-- STD, rule R193. -/
  | std (rd rs1 : RegNum) (op2 : Operand2)
  /-- LDSB, rule R181. -/
  | ldsb (rd rs1 : RegNum) (op2 : Operand2)
  /-- LDSH, rule R183. -/
  | ldsh (rd rs1 : RegNum) (op2 : Operand2)
  /-- LDSTUB, rule R211. -/
  | ldstub (rd rs1 : RegNum) (op2 : Operand2)
  /-- SWAP, rule R213. -/
  | swap (rd rs1 : RegNum) (op2 : Operand2)
  /-- LDA, rule R202. -/
  | lda (rd rs1 : RegNum) (asi : Asi) (rs2 : RegNum)
  /-- LDUBA, rule R203. -/
  | lduba (rd rs1 : RegNum) (asi : Asi) (rs2 : RegNum)
  /-- LDUHA, rule R204. -/
  | lduha (rd rs1 : RegNum) (asi : Asi) (rs2 : RegNum)
  /-- LDDA, rule R205. -/
  | ldda (rd rs1 : RegNum) (asi : Asi) (rs2 : RegNum)
  /-- STA, rule R215. -/
  | sta (rd rs1 : RegNum) (asi : Asi) (rs2 : RegNum)
  /-- STBA, rule R216. -/
  | stba (rd rs1 : RegNum) (asi : Asi) (rs2 : RegNum)
  /-- STHA, rule R217. -/
  | stha (rd rs1 : RegNum) (asi : Asi) (rs2 : RegNum)
  /-- STDA, rule R218. -/
  | stda (rd rs1 : RegNum) (asi : Asi) (rs2 : RegNum)
  /-- LDSBA, rule R206. -/
  | ldsba (rd rs1 : RegNum) (asi : Asi) (rs2 : RegNum)
  /-- LDSHA, rule R207. -/
  | ldsha (rd rs1 : RegNum) (asi : Asi) (rs2 : RegNum)
  /-- LDSTUBA, rule R212. -/
  | ldstuba (rd rs1 : RegNum) (asi : Asi) (rs2 : RegNum)
  /-- SWAPA, rule R214. -/
  | swapa (rd rs1 : RegNum) (asi : Asi) (rs2 : RegNum)
  /-- LDF, rule R366. -/
  | ldf (rd rs1 : RegNum) (op2 : Operand2)
  /-- LDFSR, rule R368. -/
  | ldfsr (rd rs1 : RegNum) (op2 : Operand2)
  /-- LDDF, rule R367. -/
  | lddf (rd rs1 : RegNum) (op2 : Operand2)
  /-- STF, rule R369. -/
  | stf (rd rs1 : RegNum) (op2 : Operand2)
  /-- STFSR, rule R371. -/
  | stfsr (rd rs1 : RegNum) (op2 : Operand2)
  /-- STDFQ, rule R372. -/
  | stdfq (rd rs1 : RegNum) (op2 : Operand2)
  /-- STDF, rule R370. -/
  | stdf (rd rs1 : RegNum) (op2 : Operand2)
  /-- LDC, rule R376. -/
  | ldc (rd rs1 : RegNum) (op2 : Operand2)
  /-- LDCSR, rule R378. -/
  | ldcsr (rd rs1 : RegNum) (op2 : Operand2)
  /-- LDDC, rule R377. -/
  | lddc (rd rs1 : RegNum) (op2 : Operand2)
  /-- STC, rule R379. -/
  | stc (rd rs1 : RegNum) (op2 : Operand2)
  /-- STCSR, rule R391. -/
  | stcsr (rd rs1 : RegNum) (op2 : Operand2)
  /-- STDCQ, rule R392. -/
  | stdcq (rd rs1 : RegNum) (op2 : Operand2)
  /-- STDC, rule R390. -/
  | stdc (rd rs1 : RegNum) (op2 : Operand2)
deriving DecidableEq, Repr

end Sys2Proof
end

