-- ==== Sys2Proof/WellFormed.lean ====
section
/-! DEFINITION. Which terms of Instr stand for a word of their own. The types already bound every field; what is left is
that FPop1 and FPop2 stand only for the opf values that no row of their own names (rules R150, R151). -/

namespace Sys2Proof

/-- The opf values rule R150 names under FPop1. -/
def assignedOpf1 : List (BitVec 9) :=
  [0x001#9, 0x005#9, 0x009#9, 0x029#9, 0x02A#9, 0x02B#9, 0x041#9, 0x042#9, 0x043#9, 0x045#9, 0x046#9,
   0x047#9, 0x049#9, 0x04A#9, 0x04B#9, 0x04D#9, 0x04E#9, 0x04F#9, 0x0C4#9, 0x0C6#9, 0x0C7#9,
   0x0C8#9, 0x0C9#9, 0x0CB#9, 0x0CC#9, 0x0CD#9, 0x0CE#9, 0x0D1#9, 0x0D2#9, 0x0D3#9]

/-- The opf values rule R151 names under FPop2. -/
def assignedOpf2 : List (BitVec 9) :=
  [0x051#9, 0x052#9, 0x053#9, 0x055#9, 0x056#9, 0x057#9]

/-- The checks: an FPop1 or FPop2 constructor carries an opf that no other constructor carries. -/
def Instr.wellFormed : Instr → Bool
  | .fpop1 _ _ opf _ => !assignedOpf1.contains opf
  | .fpop2 _ _ opf _ => !assignedOpf2.contains opf
  | _ => true

end Sys2Proof
end

