-- ==== Sys2Proof/Decode.lean ====
section
/-! DEFINITION. The decoder (rule R137) and, after it, the encoder. Both follow the tables of rules R131 to R133, R146 to
R151. An encoding the tables leave unused is refused by name; the step turns each such name into the trap
illegal_instruction (rule R154). -/

namespace Sys2Proof

/-- Why a word is no instruction. Each raises illegal_instruction in the step (rules R139, R154); that is safe. -/
inductive DecodeError where
  /-- op = 00 with an unused op2 (rule R136). -/
  | unusedOp2 (op2 : BitVec 3)
  /-- op = 10 with an unused op3 (rule R148). -/
  | unusedArithOp3 (op3 : BitVec 6)
  /-- op = 11 with an unused op3 (rule R149). -/
  | unusedMemOp3 (op3 : BitVec 6)
  /-- An alternate-space instruction with i = 1 (rule R139). -/
  | alternateImmediate (op3 : BitVec 6)
  /-- Fewer than four bytes: no instruction word at all (rule R130). Raised only by the byte interface. -/
  | truncated
deriving DecidableEq, Repr

/-! ### The fields of rule R134 -/

/-- op, bits 31:30. -/
def fieldOp (w : Word) : BitVec 2 := w.extractLsb' 30 2
/-- op2, bits 24:22. -/
def fieldOpTwo (w : Word) : BitVec 3 := w.extractLsb' 22 3
/-- op3, bits 24:19. -/
def fieldOp3 (w : Word) : BitVec 6 := w.extractLsb' 19 6
/-- rd, bits 29:25. -/
def fieldRd (w : Word) : RegNum := w.extractLsb' 25 5
/-- rs1, bits 18:14. -/
def fieldRs1 (w : Word) : RegNum := w.extractLsb' 14 5
/-- rs2, bits 4:0. -/
def fieldRs2 (w : Word) : RegNum := w.extractLsb' 0 5
/-- i, bit 13. -/
def fieldI (w : Word) : BitVec 1 := w.extractLsb' 13 1
/-- simm13, bits 12:0. -/
def fieldSimm13 (w : Word) : BitVec 13 := w.extractLsb' 0 13
/-- asi, bits 12:5. -/
def fieldAsi (w : Word) : Asi := w.extractLsb' 5 8
/-- opf or opc, bits 13:5. -/
def fieldOpf (w : Word) : BitVec 9 := w.extractLsb' 5 9
/-- a, bit 29. -/
def fieldA (w : Word) : Bool := w.getLsbD 29
/-- cond, bits 28:25. -/
def fieldCond (w : Word) : BitVec 4 := w.extractLsb' 25 4
/-- imm22, disp22 or const22, bits 21:0. -/
def fieldImm22 (w : Word) : BitVec 22 := w.extractLsb' 0 22
/-- disp30, bits 29:0. -/
def fieldDisp30 (w : Word) : BitVec 30 := w.extractLsb' 0 30
/-- The second operand (rule R140). With i = 0 bits 12:5 are ignored. -/
def fieldOp2 (w : Word) : Operand2 :=
  if fieldI w = 1#1 then .imm (fieldSimm13 w) else .reg (fieldRs2 w)
/-- The shift count operand (rule R142). Bits 12:5 are ignored. -/
def fieldShift (w : Word) : ShiftCount :=
  if fieldI w = 1#1 then .imm (fieldRs2 w) else .reg (fieldRs2 w)

/-! ### The decoder -/

/-- Bicc by cond (rules R153, R301). -/
def decodeBicc (w : Word) : Instr :=
  match (fieldCond w).toNat with
  | 0 => .bn (fieldA w) (fieldImm22 w)
  | 1 => .be (fieldA w) (fieldImm22 w)
  | 2 => .ble (fieldA w) (fieldImm22 w)
  | 3 => .bl (fieldA w) (fieldImm22 w)
  | 4 => .bleu (fieldA w) (fieldImm22 w)
  | 5 => .bcs (fieldA w) (fieldImm22 w)
  | 6 => .bneg (fieldA w) (fieldImm22 w)
  | 7 => .bvs (fieldA w) (fieldImm22 w)
  | 8 => .ba (fieldA w) (fieldImm22 w)
  | 9 => .bne (fieldA w) (fieldImm22 w)
  | 10 => .bg (fieldA w) (fieldImm22 w)
  | 11 => .bge (fieldA w) (fieldImm22 w)
  | 12 => .bgu (fieldA w) (fieldImm22 w)
  | 13 => .bcc (fieldA w) (fieldImm22 w)
  | 14 => .bpos (fieldA w) (fieldImm22 w)
  | _ => .bvc (fieldA w) (fieldImm22 w)

/-- FBfcc by cond (rules R153, R305). -/
def decodeFbfcc (w : Word) : Instr :=
  match (fieldCond w).toNat with
  | 0 => .fbn (fieldA w) (fieldImm22 w)
  | 1 => .fbne (fieldA w) (fieldImm22 w)
  | 2 => .fblg (fieldA w) (fieldImm22 w)
  | 3 => .fbul (fieldA w) (fieldImm22 w)
  | 4 => .fbl (fieldA w) (fieldImm22 w)
  | 5 => .fbug (fieldA w) (fieldImm22 w)
  | 6 => .fbg (fieldA w) (fieldImm22 w)
  | 7 => .fbu (fieldA w) (fieldImm22 w)
  | 8 => .fba (fieldA w) (fieldImm22 w)
  | 9 => .fbe (fieldA w) (fieldImm22 w)
  | 10 => .fbue (fieldA w) (fieldImm22 w)
  | 11 => .fbge (fieldA w) (fieldImm22 w)
  | 12 => .fbuge (fieldA w) (fieldImm22 w)
  | 13 => .fble (fieldA w) (fieldImm22 w)
  | 14 => .fbule (fieldA w) (fieldImm22 w)
  | _ => .fbo (fieldA w) (fieldImm22 w)

/-- CBccc by cond (rules R153, R307). -/
def decodeCbccc (w : Word) : Instr :=
  match (fieldCond w).toNat with
  | 0 => .cbn (fieldA w) (fieldImm22 w)
  | 1 => .cb123 (fieldA w) (fieldImm22 w)
  | 2 => .cb12 (fieldA w) (fieldImm22 w)
  | 3 => .cb13 (fieldA w) (fieldImm22 w)
  | 4 => .cb1 (fieldA w) (fieldImm22 w)
  | 5 => .cb23 (fieldA w) (fieldImm22 w)
  | 6 => .cb2 (fieldA w) (fieldImm22 w)
  | 7 => .cb3 (fieldA w) (fieldImm22 w)
  | 8 => .cba (fieldA w) (fieldImm22 w)
  | 9 => .cb0 (fieldA w) (fieldImm22 w)
  | 10 => .cb03 (fieldA w) (fieldImm22 w)
  | 11 => .cb02 (fieldA w) (fieldImm22 w)
  | 12 => .cb023 (fieldA w) (fieldImm22 w)
  | 13 => .cb01 (fieldA w) (fieldImm22 w)
  | 14 => .cb013 (fieldA w) (fieldImm22 w)
  | _ => .cb012 (fieldA w) (fieldImm22 w)

/-- Ticc by cond (rules R153, R301); bit 29 is ignored. -/
def decodeTicc (w : Word) : Instr :=
  match (fieldCond w).toNat with
  | 0 => .tn (fieldRs1 w) (fieldOp2 w)
  | 1 => .te (fieldRs1 w) (fieldOp2 w)
  | 2 => .tle (fieldRs1 w) (fieldOp2 w)
  | 3 => .tl (fieldRs1 w) (fieldOp2 w)
  | 4 => .tleu (fieldRs1 w) (fieldOp2 w)
  | 5 => .tcs (fieldRs1 w) (fieldOp2 w)
  | 6 => .tneg (fieldRs1 w) (fieldOp2 w)
  | 7 => .tvs (fieldRs1 w) (fieldOp2 w)
  | 8 => .ta (fieldRs1 w) (fieldOp2 w)
  | 9 => .tne (fieldRs1 w) (fieldOp2 w)
  | 10 => .tg (fieldRs1 w) (fieldOp2 w)
  | 11 => .tge (fieldRs1 w) (fieldOp2 w)
  | 12 => .tgu (fieldRs1 w) (fieldOp2 w)
  | 13 => .tcc (fieldRs1 w) (fieldOp2 w)
  | 14 => .tpos (fieldRs1 w) (fieldOp2 w)
  | _ => .tvc (fieldRs1 w) (fieldOp2 w)

/-- FPop1 by opf (rule R150); an opf the table does not name stays an FPop1 (rules R155, R382). -/
def decodeFpop1 (w : Word) : Instr :=
  match (fieldOpf w).toNat with
  | 1 => .fmovs (fieldRd w) (fieldRs1 w) (fieldRs2 w)
  | 5 => .fnegs (fieldRd w) (fieldRs1 w) (fieldRs2 w)
  | 9 => .fabss (fieldRd w) (fieldRs1 w) (fieldRs2 w)
  | 41 => .fsqrts (fieldRd w) (fieldRs1 w) (fieldRs2 w)
  | 42 => .fsqrtd (fieldRd w) (fieldRs1 w) (fieldRs2 w)
  | 43 => .fsqrtx (fieldRd w) (fieldRs1 w) (fieldRs2 w)
  | 65 => .fadds (fieldRd w) (fieldRs1 w) (fieldRs2 w)
  | 66 => .faddd (fieldRd w) (fieldRs1 w) (fieldRs2 w)
  | 67 => .faddx (fieldRd w) (fieldRs1 w) (fieldRs2 w)
  | 69 => .fsubs (fieldRd w) (fieldRs1 w) (fieldRs2 w)
  | 70 => .fsubd (fieldRd w) (fieldRs1 w) (fieldRs2 w)
  | 71 => .fsubx (fieldRd w) (fieldRs1 w) (fieldRs2 w)
  | 73 => .fmuls (fieldRd w) (fieldRs1 w) (fieldRs2 w)
  | 74 => .fmuld (fieldRd w) (fieldRs1 w) (fieldRs2 w)
  | 75 => .fmulx (fieldRd w) (fieldRs1 w) (fieldRs2 w)
  | 77 => .fdivs (fieldRd w) (fieldRs1 w) (fieldRs2 w)
  | 78 => .fdivd (fieldRd w) (fieldRs1 w) (fieldRs2 w)
  | 79 => .fdivx (fieldRd w) (fieldRs1 w) (fieldRs2 w)
  | 196 => .fitos (fieldRd w) (fieldRs1 w) (fieldRs2 w)
  | 198 => .fdtos (fieldRd w) (fieldRs1 w) (fieldRs2 w)
  | 199 => .fxtos (fieldRd w) (fieldRs1 w) (fieldRs2 w)
  | 200 => .fitod (fieldRd w) (fieldRs1 w) (fieldRs2 w)
  | 201 => .fstod (fieldRd w) (fieldRs1 w) (fieldRs2 w)
  | 203 => .fxtod (fieldRd w) (fieldRs1 w) (fieldRs2 w)
  | 204 => .fitox (fieldRd w) (fieldRs1 w) (fieldRs2 w)
  | 205 => .fstox (fieldRd w) (fieldRs1 w) (fieldRs2 w)
  | 206 => .fdtox (fieldRd w) (fieldRs1 w) (fieldRs2 w)
  | 209 => .fstoi (fieldRd w) (fieldRs1 w) (fieldRs2 w)
  | 210 => .fdtoi (fieldRd w) (fieldRs1 w) (fieldRs2 w)
  | 211 => .fxtoi (fieldRd w) (fieldRs1 w) (fieldRs2 w)
  | _ => .fpop1 (fieldRd w) (fieldRs1 w) (fieldOpf w) (fieldRs2 w)

/-- FPop2 by opf (rule R151); an opf the table does not name stays an FPop2 (rules R155, R382). -/
def decodeFpop2 (w : Word) : Instr :=
  match (fieldOpf w).toNat with
  | 81 => .fcmps (fieldRd w) (fieldRs1 w) (fieldRs2 w)
  | 82 => .fcmpd (fieldRd w) (fieldRs1 w) (fieldRs2 w)
  | 83 => .fcmpx (fieldRd w) (fieldRs1 w) (fieldRs2 w)
  | 85 => .fcmpes (fieldRd w) (fieldRs1 w) (fieldRs2 w)
  | 86 => .fcmped (fieldRd w) (fieldRs1 w) (fieldRs2 w)
  | 87 => .fcmpex (fieldRd w) (fieldRs1 w) (fieldRs2 w)
  | _ => .fpop2 (fieldRd w) (fieldRs1 w) (fieldOpf w) (fieldRs2 w)

/-- op = 00 (rules R136, R146). -/
def decodeFormat2 (w : Word) : Except DecodeError Instr :=
  match (fieldOpTwo w).toNat with
  | 0 => .ok (.unimp (fieldImm22 w))
  | 2 => .ok (decodeBicc w)
  | 4 => .ok (.sethi (fieldRd w) (fieldImm22 w))
  | 6 => .ok (decodeFbfcc w)
  | 7 => .ok (decodeCbccc w)
  | _ => .error (.unusedOp2 (fieldOpTwo w))

/-- op = 10 (rule R148). -/
def decodeArith (w : Word) : Except DecodeError Instr :=
  match (fieldOp3 w).toNat with
  | 0 => .ok (.add (fieldRd w) (fieldRs1 w) (fieldOp2 w))
  | 1 => .ok (.and (fieldRd w) (fieldRs1 w) (fieldOp2 w))
  | 2 => .ok (.or (fieldRd w) (fieldRs1 w) (fieldOp2 w))
  | 3 => .ok (.xor (fieldRd w) (fieldRs1 w) (fieldOp2 w))
  | 4 => .ok (.sub (fieldRd w) (fieldRs1 w) (fieldOp2 w))
  | 5 => .ok (.andn (fieldRd w) (fieldRs1 w) (fieldOp2 w))
  | 6 => .ok (.orn (fieldRd w) (fieldRs1 w) (fieldOp2 w))
  | 7 => .ok (.xnor (fieldRd w) (fieldRs1 w) (fieldOp2 w))
  | 8 => .ok (.addx (fieldRd w) (fieldRs1 w) (fieldOp2 w))
  | 12 => .ok (.subx (fieldRd w) (fieldRs1 w) (fieldOp2 w))
  | 16 => .ok (.addcc (fieldRd w) (fieldRs1 w) (fieldOp2 w))
  | 17 => .ok (.andcc (fieldRd w) (fieldRs1 w) (fieldOp2 w))
  | 18 => .ok (.orcc (fieldRd w) (fieldRs1 w) (fieldOp2 w))
  | 19 => .ok (.xorcc (fieldRd w) (fieldRs1 w) (fieldOp2 w))
  | 20 => .ok (.subcc (fieldRd w) (fieldRs1 w) (fieldOp2 w))
  | 21 => .ok (.andncc (fieldRd w) (fieldRs1 w) (fieldOp2 w))
  | 22 => .ok (.orncc (fieldRd w) (fieldRs1 w) (fieldOp2 w))
  | 23 => .ok (.xnorcc (fieldRd w) (fieldRs1 w) (fieldOp2 w))
  | 24 => .ok (.addxcc (fieldRd w) (fieldRs1 w) (fieldOp2 w))
  | 28 => .ok (.subxcc (fieldRd w) (fieldRs1 w) (fieldOp2 w))
  | 32 => .ok (.taddcc (fieldRd w) (fieldRs1 w) (fieldOp2 w))
  | 33 => .ok (.tsubcc (fieldRd w) (fieldRs1 w) (fieldOp2 w))
  | 34 => .ok (.taddcctv (fieldRd w) (fieldRs1 w) (fieldOp2 w))
  | 35 => .ok (.tsubcctv (fieldRd w) (fieldRs1 w) (fieldOp2 w))
  | 36 => .ok (.mulscc (fieldRd w) (fieldRs1 w) (fieldOp2 w))
  | 37 => .ok (.sll (fieldRd w) (fieldRs1 w) (fieldShift w))
  | 38 => .ok (.srl (fieldRd w) (fieldRs1 w) (fieldShift w))
  | 39 => .ok (.sra (fieldRd w) (fieldRs1 w) (fieldShift w))
  | 40 => .ok (.rdy (fieldRd w))
  | 41 => .ok (.rdpsr (fieldRd w))
  | 42 => .ok (.rdwim (fieldRd w))
  | 43 => .ok (.rdtbr (fieldRd w))
  | 48 => .ok (.wry (fieldRs1 w) (fieldOp2 w))
  | 49 => .ok (.wrpsr (fieldRs1 w) (fieldOp2 w))
  | 50 => .ok (.wrwim (fieldRs1 w) (fieldOp2 w))
  | 51 => .ok (.wrtbr (fieldRs1 w) (fieldOp2 w))
  | 52 => .ok (decodeFpop1 w)
  | 53 => .ok (decodeFpop2 w)
  | 54 => .ok (.cpop1 (fieldRd w) (fieldRs1 w) (fieldOpf w) (fieldRs2 w))
  | 55 => .ok (.cpop2 (fieldRd w) (fieldRs1 w) (fieldOpf w) (fieldRs2 w))
  | 56 => .ok (.jmpl (fieldRd w) (fieldRs1 w) (fieldOp2 w))
  | 57 => .ok (.rett (fieldRs1 w) (fieldOp2 w))
  | 58 => .ok (decodeTicc w)
  | 59 => .ok (.iflush (fieldRs1 w) (fieldOp2 w))
  | 60 => .ok (.save (fieldRd w) (fieldRs1 w) (fieldOp2 w))
  | 61 => .ok (.restore (fieldRd w) (fieldRs1 w) (fieldOp2 w))
  | _ => .error (.unusedArithOp3 (fieldOp3 w))

/-- An alternate-space instruction exists only with i = 0 (rule R139). -/
def decodeAlternate (w : Word) (i : Instr) : Except DecodeError Instr :=
  if fieldI w = 1#1 then .error (.alternateImmediate (fieldOp3 w)) else .ok i

/-- op = 11 (rule R149). -/
def decodeMem (w : Word) : Except DecodeError Instr :=
  match (fieldOp3 w).toNat with
  | 0 => .ok (.ld (fieldRd w) (fieldRs1 w) (fieldOp2 w))
  | 1 => .ok (.ldub (fieldRd w) (fieldRs1 w) (fieldOp2 w))
  | 2 => .ok (.lduh (fieldRd w) (fieldRs1 w) (fieldOp2 w))
  | 3 => .ok (.ldd (fieldRd w) (fieldRs1 w) (fieldOp2 w))
  | 4 => .ok (.st (fieldRd w) (fieldRs1 w) (fieldOp2 w))
  | 5 => .ok (.stb (fieldRd w) (fieldRs1 w) (fieldOp2 w))
  | 6 => .ok (.sth (fieldRd w) (fieldRs1 w) (fieldOp2 w))
  | 7 => .ok (.std (fieldRd w) (fieldRs1 w) (fieldOp2 w))
  | 9 => .ok (.ldsb (fieldRd w) (fieldRs1 w) (fieldOp2 w))
  | 10 => .ok (.ldsh (fieldRd w) (fieldRs1 w) (fieldOp2 w))
  | 13 => .ok (.ldstub (fieldRd w) (fieldRs1 w) (fieldOp2 w))
  | 15 => .ok (.swap (fieldRd w) (fieldRs1 w) (fieldOp2 w))
  | 16 => decodeAlternate w (.lda (fieldRd w) (fieldRs1 w) (fieldAsi w) (fieldRs2 w))
  | 17 => decodeAlternate w (.lduba (fieldRd w) (fieldRs1 w) (fieldAsi w) (fieldRs2 w))
  | 18 => decodeAlternate w (.lduha (fieldRd w) (fieldRs1 w) (fieldAsi w) (fieldRs2 w))
  | 19 => decodeAlternate w (.ldda (fieldRd w) (fieldRs1 w) (fieldAsi w) (fieldRs2 w))
  | 20 => decodeAlternate w (.sta (fieldRd w) (fieldRs1 w) (fieldAsi w) (fieldRs2 w))
  | 21 => decodeAlternate w (.stba (fieldRd w) (fieldRs1 w) (fieldAsi w) (fieldRs2 w))
  | 22 => decodeAlternate w (.stha (fieldRd w) (fieldRs1 w) (fieldAsi w) (fieldRs2 w))
  | 23 => decodeAlternate w (.stda (fieldRd w) (fieldRs1 w) (fieldAsi w) (fieldRs2 w))
  | 25 => decodeAlternate w (.ldsba (fieldRd w) (fieldRs1 w) (fieldAsi w) (fieldRs2 w))
  | 26 => decodeAlternate w (.ldsha (fieldRd w) (fieldRs1 w) (fieldAsi w) (fieldRs2 w))
  | 29 => decodeAlternate w (.ldstuba (fieldRd w) (fieldRs1 w) (fieldAsi w) (fieldRs2 w))
  | 31 => decodeAlternate w (.swapa (fieldRd w) (fieldRs1 w) (fieldAsi w) (fieldRs2 w))
  | 32 => .ok (.ldf (fieldRd w) (fieldRs1 w) (fieldOp2 w))
  | 33 => .ok (.ldfsr (fieldRd w) (fieldRs1 w) (fieldOp2 w))
  | 35 => .ok (.lddf (fieldRd w) (fieldRs1 w) (fieldOp2 w))
  | 36 => .ok (.stf (fieldRd w) (fieldRs1 w) (fieldOp2 w))
  | 37 => .ok (.stfsr (fieldRd w) (fieldRs1 w) (fieldOp2 w))
  | 38 => .ok (.stdfq (fieldRd w) (fieldRs1 w) (fieldOp2 w))
  | 39 => .ok (.stdf (fieldRd w) (fieldRs1 w) (fieldOp2 w))
  | 48 => .ok (.ldc (fieldRd w) (fieldRs1 w) (fieldOp2 w))
  | 49 => .ok (.ldcsr (fieldRd w) (fieldRs1 w) (fieldOp2 w))
  | 51 => .ok (.lddc (fieldRd w) (fieldRs1 w) (fieldOp2 w))
  | 52 => .ok (.stc (fieldRd w) (fieldRs1 w) (fieldOp2 w))
  | 53 => .ok (.stcsr (fieldRd w) (fieldRs1 w) (fieldOp2 w))
  | 54 => .ok (.stdcq (fieldRd w) (fieldRs1 w) (fieldOp2 w))
  | 55 => .ok (.stdc (fieldRd w) (fieldRs1 w) (fieldOp2 w))
  | _ => .error (.unusedMemOp3 (fieldOp3 w))

/-- The whole decode procedure (rule R137), total on words. -/
def decodeWord (w : Word) : Except DecodeError Instr :=
  match (fieldOp w).toNat with
  | 0 => decodeFormat2 w
  | 1 => .ok (.call (fieldDisp30 w))
  | 2 => decodeArith w
  | _ => decodeMem w

/-- A word from its four bytes, the first at the lowest address (rules R87, R130: big-endian). -/
def wordOfBytes (b0 b1 b2 b3 : Byte) : Word := b0 ++ b1 ++ b2 ++ b3

/-- The four bytes of a word, the first at the lowest address (rule R87). -/
def bytesOfWord (w : Word) : List Byte :=
  [w.extractLsb' 24 8, w.extractLsb' 16 8, w.extractLsb' 8 8, w.extractLsb' 0 8]

/-- Decode the instruction at the head of a list of bytes; total on any bytes (rule R130: one length only). -/
def decode : List Byte → Except DecodeError (Instr × List Byte)
  | b0 :: b1 :: b2 :: b3 :: rest =>
    match decodeWord (wordOfBytes b0 b1 b2 b3) with
    | .ok i => .ok (i, rest)
    | .error e => .error e
  | _ => .error .truncated

/-- The instruction the decoder reads from the table's bits w: laid out as the hardware stores it (big-endian, the most
significant byte first) and decoded from the bytes. Bits at and above nbits are 0. -/
def decodeTableWord (nbits w : Nat) : Option Instr :=
  match decode (bytesOfWord (BitVec.ofNat 32 (w % 2 ^ nbits))) with
  | .ok (i, _) => some i
  | .error _ => none

/-! ### The encoder -/

/-- Format 3 with its low 14 bits given (rule R133). -/
def fmt3 (op : BitVec 2) (rd : RegNum) (op3 : BitVec 6) (rs1 : RegNum) (low : BitVec 14) : Word :=
  op ++ rd ++ op3 ++ rs1 ++ low

/-- Format 2, branch (rule R132). -/
def fmt2Branch (a : Bool) (cond : BitVec 4) (op2 : BitVec 3) (disp22 : BitVec 22) : Word :=
  0#2 ++ BitVec.ofBool a ++ cond ++ op2 ++ disp22

/-- Format 2, SETHI and UNIMP (rule R132). -/
def fmt2Imm (rd : RegNum) (op2 : BitVec 3) (imm22 : BitVec 22) : Word :=
  0#2 ++ rd ++ op2 ++ imm22

/-- Bits 13:0 of a second operand; ignored bits are written as 0 (rule R140). -/
def lowOp2 : Operand2 → BitVec 14
  | .reg rs2 => 0#9 ++ rs2
  | .imm simm13 => 1#1 ++ simm13

/-- Bits 13:0 of a shift count; ignored bits are written as 0 (rule R142). -/
def lowShift : ShiftCount → BitVec 14
  | .reg rs2 => 0#9 ++ rs2
  | .imm shcnt => 1#1 ++ 0#8 ++ shcnt

/-- Bits 13:0 of an alternate-space form: i = 0, asi, rs2 (rule R133). -/
def lowAlt (asi : Asi) (rs2 : RegNum) : BitVec 14 := 0#1 ++ asi ++ rs2

/-- An FPop or CPop word (rule R133): every bit of it is a field. -/
def fpopWord (op3 : BitVec 6) (rd rs1 : RegNum) (opf : BitVec 9) (rs2 : RegNum) : Word :=
  fmt3 2#2 rd op3 rs1 (opf ++ rs2)

/-- The word of an instruction, from the tables of rules R146 to R151. -/
def encode : Instr → Word
  | .unimp c => fmt2Imm 0#5 0#3 c
  | .sethi rd c => fmt2Imm rd 4#3 c
  | .bn a d => fmt2Branch a 0#4 2#3 d
  | .be a d => fmt2Branch a 1#4 2#3 d
  | .ble a d => fmt2Branch a 2#4 2#3 d
  | .bl a d => fmt2Branch a 3#4 2#3 d
  | .bleu a d => fmt2Branch a 4#4 2#3 d
  | .bcs a d => fmt2Branch a 5#4 2#3 d
  | .bneg a d => fmt2Branch a 6#4 2#3 d
  | .bvs a d => fmt2Branch a 7#4 2#3 d
  | .ba a d => fmt2Branch a 8#4 2#3 d
  | .bne a d => fmt2Branch a 9#4 2#3 d
  | .bg a d => fmt2Branch a 10#4 2#3 d
  | .bge a d => fmt2Branch a 11#4 2#3 d
  | .bgu a d => fmt2Branch a 12#4 2#3 d
  | .bcc a d => fmt2Branch a 13#4 2#3 d
  | .bpos a d => fmt2Branch a 14#4 2#3 d
  | .bvc a d => fmt2Branch a 15#4 2#3 d
  | .fbn a d => fmt2Branch a 0#4 6#3 d
  | .fbne a d => fmt2Branch a 1#4 6#3 d
  | .fblg a d => fmt2Branch a 2#4 6#3 d
  | .fbul a d => fmt2Branch a 3#4 6#3 d
  | .fbl a d => fmt2Branch a 4#4 6#3 d
  | .fbug a d => fmt2Branch a 5#4 6#3 d
  | .fbg a d => fmt2Branch a 6#4 6#3 d
  | .fbu a d => fmt2Branch a 7#4 6#3 d
  | .fba a d => fmt2Branch a 8#4 6#3 d
  | .fbe a d => fmt2Branch a 9#4 6#3 d
  | .fbue a d => fmt2Branch a 10#4 6#3 d
  | .fbge a d => fmt2Branch a 11#4 6#3 d
  | .fbuge a d => fmt2Branch a 12#4 6#3 d
  | .fble a d => fmt2Branch a 13#4 6#3 d
  | .fbule a d => fmt2Branch a 14#4 6#3 d
  | .fbo a d => fmt2Branch a 15#4 6#3 d
  | .cbn a d => fmt2Branch a 0#4 7#3 d
  | .cb123 a d => fmt2Branch a 1#4 7#3 d
  | .cb12 a d => fmt2Branch a 2#4 7#3 d
  | .cb13 a d => fmt2Branch a 3#4 7#3 d
  | .cb1 a d => fmt2Branch a 4#4 7#3 d
  | .cb23 a d => fmt2Branch a 5#4 7#3 d
  | .cb2 a d => fmt2Branch a 6#4 7#3 d
  | .cb3 a d => fmt2Branch a 7#4 7#3 d
  | .cba a d => fmt2Branch a 8#4 7#3 d
  | .cb0 a d => fmt2Branch a 9#4 7#3 d
  | .cb03 a d => fmt2Branch a 10#4 7#3 d
  | .cb02 a d => fmt2Branch a 11#4 7#3 d
  | .cb023 a d => fmt2Branch a 12#4 7#3 d
  | .cb01 a d => fmt2Branch a 13#4 7#3 d
  | .cb013 a d => fmt2Branch a 14#4 7#3 d
  | .cb012 a d => fmt2Branch a 15#4 7#3 d
  | .call d => 1#2 ++ d
  | .add rd rs1 op2 => fmt3 2#2 rd 0#6 rs1 (lowOp2 op2)
  | .and rd rs1 op2 => fmt3 2#2 rd 1#6 rs1 (lowOp2 op2)
  | .or rd rs1 op2 => fmt3 2#2 rd 2#6 rs1 (lowOp2 op2)
  | .xor rd rs1 op2 => fmt3 2#2 rd 3#6 rs1 (lowOp2 op2)
  | .sub rd rs1 op2 => fmt3 2#2 rd 4#6 rs1 (lowOp2 op2)
  | .andn rd rs1 op2 => fmt3 2#2 rd 5#6 rs1 (lowOp2 op2)
  | .orn rd rs1 op2 => fmt3 2#2 rd 6#6 rs1 (lowOp2 op2)
  | .xnor rd rs1 op2 => fmt3 2#2 rd 7#6 rs1 (lowOp2 op2)
  | .addx rd rs1 op2 => fmt3 2#2 rd 8#6 rs1 (lowOp2 op2)
  | .subx rd rs1 op2 => fmt3 2#2 rd 12#6 rs1 (lowOp2 op2)
  | .addcc rd rs1 op2 => fmt3 2#2 rd 16#6 rs1 (lowOp2 op2)
  | .andcc rd rs1 op2 => fmt3 2#2 rd 17#6 rs1 (lowOp2 op2)
  | .orcc rd rs1 op2 => fmt3 2#2 rd 18#6 rs1 (lowOp2 op2)
  | .xorcc rd rs1 op2 => fmt3 2#2 rd 19#6 rs1 (lowOp2 op2)
  | .subcc rd rs1 op2 => fmt3 2#2 rd 20#6 rs1 (lowOp2 op2)
  | .andncc rd rs1 op2 => fmt3 2#2 rd 21#6 rs1 (lowOp2 op2)
  | .orncc rd rs1 op2 => fmt3 2#2 rd 22#6 rs1 (lowOp2 op2)
  | .xnorcc rd rs1 op2 => fmt3 2#2 rd 23#6 rs1 (lowOp2 op2)
  | .addxcc rd rs1 op2 => fmt3 2#2 rd 24#6 rs1 (lowOp2 op2)
  | .subxcc rd rs1 op2 => fmt3 2#2 rd 28#6 rs1 (lowOp2 op2)
  | .taddcc rd rs1 op2 => fmt3 2#2 rd 32#6 rs1 (lowOp2 op2)
  | .tsubcc rd rs1 op2 => fmt3 2#2 rd 33#6 rs1 (lowOp2 op2)
  | .taddcctv rd rs1 op2 => fmt3 2#2 rd 34#6 rs1 (lowOp2 op2)
  | .tsubcctv rd rs1 op2 => fmt3 2#2 rd 35#6 rs1 (lowOp2 op2)
  | .mulscc rd rs1 op2 => fmt3 2#2 rd 36#6 rs1 (lowOp2 op2)
  | .sll rd rs1 n => fmt3 2#2 rd 37#6 rs1 (lowShift n)
  | .srl rd rs1 n => fmt3 2#2 rd 38#6 rs1 (lowShift n)
  | .sra rd rs1 n => fmt3 2#2 rd 39#6 rs1 (lowShift n)
  | .rdy rd => fmt3 2#2 rd 40#6 0#5 0#14
  | .rdpsr rd => fmt3 2#2 rd 41#6 0#5 0#14
  | .rdwim rd => fmt3 2#2 rd 42#6 0#5 0#14
  | .rdtbr rd => fmt3 2#2 rd 43#6 0#5 0#14
  | .wry rs1 op2 => fmt3 2#2 0#5 48#6 rs1 (lowOp2 op2)
  | .wrpsr rs1 op2 => fmt3 2#2 0#5 49#6 rs1 (lowOp2 op2)
  | .wrwim rs1 op2 => fmt3 2#2 0#5 50#6 rs1 (lowOp2 op2)
  | .wrtbr rs1 op2 => fmt3 2#2 0#5 51#6 rs1 (lowOp2 op2)
  | .fpop1 rd rs1 opf rs2 => fpopWord 52#6 rd rs1 opf rs2
  | .fmovs rd rs1 rs2 => fpopWord 52#6 rd rs1 1#9 rs2
  | .fnegs rd rs1 rs2 => fpopWord 52#6 rd rs1 5#9 rs2
  | .fabss rd rs1 rs2 => fpopWord 52#6 rd rs1 9#9 rs2
  | .fsqrts rd rs1 rs2 => fpopWord 52#6 rd rs1 41#9 rs2
  | .fsqrtd rd rs1 rs2 => fpopWord 52#6 rd rs1 42#9 rs2
  | .fsqrtx rd rs1 rs2 => fpopWord 52#6 rd rs1 43#9 rs2
  | .fadds rd rs1 rs2 => fpopWord 52#6 rd rs1 65#9 rs2
  | .faddd rd rs1 rs2 => fpopWord 52#6 rd rs1 66#9 rs2
  | .faddx rd rs1 rs2 => fpopWord 52#6 rd rs1 67#9 rs2
  | .fsubs rd rs1 rs2 => fpopWord 52#6 rd rs1 69#9 rs2
  | .fsubd rd rs1 rs2 => fpopWord 52#6 rd rs1 70#9 rs2
  | .fsubx rd rs1 rs2 => fpopWord 52#6 rd rs1 71#9 rs2
  | .fmuls rd rs1 rs2 => fpopWord 52#6 rd rs1 73#9 rs2
  | .fmuld rd rs1 rs2 => fpopWord 52#6 rd rs1 74#9 rs2
  | .fmulx rd rs1 rs2 => fpopWord 52#6 rd rs1 75#9 rs2
  | .fdivs rd rs1 rs2 => fpopWord 52#6 rd rs1 77#9 rs2
  | .fdivd rd rs1 rs2 => fpopWord 52#6 rd rs1 78#9 rs2
  | .fdivx rd rs1 rs2 => fpopWord 52#6 rd rs1 79#9 rs2
  | .fitos rd rs1 rs2 => fpopWord 52#6 rd rs1 196#9 rs2
  | .fdtos rd rs1 rs2 => fpopWord 52#6 rd rs1 198#9 rs2
  | .fxtos rd rs1 rs2 => fpopWord 52#6 rd rs1 199#9 rs2
  | .fitod rd rs1 rs2 => fpopWord 52#6 rd rs1 200#9 rs2
  | .fstod rd rs1 rs2 => fpopWord 52#6 rd rs1 201#9 rs2
  | .fxtod rd rs1 rs2 => fpopWord 52#6 rd rs1 203#9 rs2
  | .fitox rd rs1 rs2 => fpopWord 52#6 rd rs1 204#9 rs2
  | .fstox rd rs1 rs2 => fpopWord 52#6 rd rs1 205#9 rs2
  | .fdtox rd rs1 rs2 => fpopWord 52#6 rd rs1 206#9 rs2
  | .fstoi rd rs1 rs2 => fpopWord 52#6 rd rs1 209#9 rs2
  | .fdtoi rd rs1 rs2 => fpopWord 52#6 rd rs1 210#9 rs2
  | .fxtoi rd rs1 rs2 => fpopWord 52#6 rd rs1 211#9 rs2
  | .fpop2 rd rs1 opf rs2 => fpopWord 53#6 rd rs1 opf rs2
  | .fcmps rd rs1 rs2 => fpopWord 53#6 rd rs1 81#9 rs2
  | .fcmpd rd rs1 rs2 => fpopWord 53#6 rd rs1 82#9 rs2
  | .fcmpx rd rs1 rs2 => fpopWord 53#6 rd rs1 83#9 rs2
  | .fcmpes rd rs1 rs2 => fpopWord 53#6 rd rs1 85#9 rs2
  | .fcmped rd rs1 rs2 => fpopWord 53#6 rd rs1 86#9 rs2
  | .fcmpex rd rs1 rs2 => fpopWord 53#6 rd rs1 87#9 rs2
  | .cpop1 rd rs1 opf rs2 => fpopWord 54#6 rd rs1 opf rs2
  | .cpop2 rd rs1 opf rs2 => fpopWord 55#6 rd rs1 opf rs2
  | .jmpl rd rs1 op2 => fmt3 2#2 rd 56#6 rs1 (lowOp2 op2)
  | .rett rs1 op2 => fmt3 2#2 0#5 57#6 rs1 (lowOp2 op2)
  | .tn rs1 op2 => fmt3 2#2 0#5 58#6 rs1 (lowOp2 op2)
  | .te rs1 op2 => fmt3 2#2 1#5 58#6 rs1 (lowOp2 op2)
  | .tle rs1 op2 => fmt3 2#2 2#5 58#6 rs1 (lowOp2 op2)
  | .tl rs1 op2 => fmt3 2#2 3#5 58#6 rs1 (lowOp2 op2)
  | .tleu rs1 op2 => fmt3 2#2 4#5 58#6 rs1 (lowOp2 op2)
  | .tcs rs1 op2 => fmt3 2#2 5#5 58#6 rs1 (lowOp2 op2)
  | .tneg rs1 op2 => fmt3 2#2 6#5 58#6 rs1 (lowOp2 op2)
  | .tvs rs1 op2 => fmt3 2#2 7#5 58#6 rs1 (lowOp2 op2)
  | .ta rs1 op2 => fmt3 2#2 8#5 58#6 rs1 (lowOp2 op2)
  | .tne rs1 op2 => fmt3 2#2 9#5 58#6 rs1 (lowOp2 op2)
  | .tg rs1 op2 => fmt3 2#2 10#5 58#6 rs1 (lowOp2 op2)
  | .tge rs1 op2 => fmt3 2#2 11#5 58#6 rs1 (lowOp2 op2)
  | .tgu rs1 op2 => fmt3 2#2 12#5 58#6 rs1 (lowOp2 op2)
  | .tcc rs1 op2 => fmt3 2#2 13#5 58#6 rs1 (lowOp2 op2)
  | .tpos rs1 op2 => fmt3 2#2 14#5 58#6 rs1 (lowOp2 op2)
  | .tvc rs1 op2 => fmt3 2#2 15#5 58#6 rs1 (lowOp2 op2)
  | .iflush rs1 op2 => fmt3 2#2 0#5 59#6 rs1 (lowOp2 op2)
  | .save rd rs1 op2 => fmt3 2#2 rd 60#6 rs1 (lowOp2 op2)
  | .restore rd rs1 op2 => fmt3 2#2 rd 61#6 rs1 (lowOp2 op2)
  | .ld rd rs1 op2 => fmt3 3#2 rd 0#6 rs1 (lowOp2 op2)
  | .ldub rd rs1 op2 => fmt3 3#2 rd 1#6 rs1 (lowOp2 op2)
  | .lduh rd rs1 op2 => fmt3 3#2 rd 2#6 rs1 (lowOp2 op2)
  | .ldd rd rs1 op2 => fmt3 3#2 rd 3#6 rs1 (lowOp2 op2)
  | .st rd rs1 op2 => fmt3 3#2 rd 4#6 rs1 (lowOp2 op2)
  | .stb rd rs1 op2 => fmt3 3#2 rd 5#6 rs1 (lowOp2 op2)
  | .sth rd rs1 op2 => fmt3 3#2 rd 6#6 rs1 (lowOp2 op2)
  | .std rd rs1 op2 => fmt3 3#2 rd 7#6 rs1 (lowOp2 op2)
  | .ldsb rd rs1 op2 => fmt3 3#2 rd 9#6 rs1 (lowOp2 op2)
  | .ldsh rd rs1 op2 => fmt3 3#2 rd 10#6 rs1 (lowOp2 op2)
  | .ldstub rd rs1 op2 => fmt3 3#2 rd 13#6 rs1 (lowOp2 op2)
  | .swap rd rs1 op2 => fmt3 3#2 rd 15#6 rs1 (lowOp2 op2)
  | .lda rd rs1 asi rs2 => fmt3 3#2 rd 16#6 rs1 (lowAlt asi rs2)
  | .lduba rd rs1 asi rs2 => fmt3 3#2 rd 17#6 rs1 (lowAlt asi rs2)
  | .lduha rd rs1 asi rs2 => fmt3 3#2 rd 18#6 rs1 (lowAlt asi rs2)
  | .ldda rd rs1 asi rs2 => fmt3 3#2 rd 19#6 rs1 (lowAlt asi rs2)
  | .sta rd rs1 asi rs2 => fmt3 3#2 rd 20#6 rs1 (lowAlt asi rs2)
  | .stba rd rs1 asi rs2 => fmt3 3#2 rd 21#6 rs1 (lowAlt asi rs2)
  | .stha rd rs1 asi rs2 => fmt3 3#2 rd 22#6 rs1 (lowAlt asi rs2)
  | .stda rd rs1 asi rs2 => fmt3 3#2 rd 23#6 rs1 (lowAlt asi rs2)
  | .ldsba rd rs1 asi rs2 => fmt3 3#2 rd 25#6 rs1 (lowAlt asi rs2)
  | .ldsha rd rs1 asi rs2 => fmt3 3#2 rd 26#6 rs1 (lowAlt asi rs2)
  | .ldstuba rd rs1 asi rs2 => fmt3 3#2 rd 29#6 rs1 (lowAlt asi rs2)
  | .swapa rd rs1 asi rs2 => fmt3 3#2 rd 31#6 rs1 (lowAlt asi rs2)
  | .ldf rd rs1 op2 => fmt3 3#2 rd 32#6 rs1 (lowOp2 op2)
  | .ldfsr rd rs1 op2 => fmt3 3#2 rd 33#6 rs1 (lowOp2 op2)
  | .lddf rd rs1 op2 => fmt3 3#2 rd 35#6 rs1 (lowOp2 op2)
  | .stf rd rs1 op2 => fmt3 3#2 rd 36#6 rs1 (lowOp2 op2)
  | .stfsr rd rs1 op2 => fmt3 3#2 rd 37#6 rs1 (lowOp2 op2)
  | .stdfq rd rs1 op2 => fmt3 3#2 rd 38#6 rs1 (lowOp2 op2)
  | .stdf rd rs1 op2 => fmt3 3#2 rd 39#6 rs1 (lowOp2 op2)
  | .ldc rd rs1 op2 => fmt3 3#2 rd 48#6 rs1 (lowOp2 op2)
  | .ldcsr rd rs1 op2 => fmt3 3#2 rd 49#6 rs1 (lowOp2 op2)
  | .lddc rd rs1 op2 => fmt3 3#2 rd 51#6 rs1 (lowOp2 op2)
  | .stc rd rs1 op2 => fmt3 3#2 rd 52#6 rs1 (lowOp2 op2)
  | .stcsr rd rs1 op2 => fmt3 3#2 rd 53#6 rs1 (lowOp2 op2)
  | .stdcq rd rs1 op2 => fmt3 3#2 rd 54#6 rs1 (lowOp2 op2)
  | .stdc rd rs1 op2 => fmt3 3#2 rd 55#6 rs1 (lowOp2 op2)

/-- The bytes of an instruction as they lie in memory. -/
def encodeBytes (i : Instr) : List Byte := bytesOfWord (encode i)

end Sys2Proof
end

