-- ==== Sys2Proof/Machine/ResetValues.lean ====
section
/-! DEFINITION. The values the model names for what reset does not fix (rules R60, R503: "unspecified"), each in one
place. State.reset reads them; the assumption log's entries 1 to 4, 24, 36 and 38 say why each is what it is. -/

namespace Sys2Proof.Machine

/-- The configuration after reset: the defaults of 92_eei_decisions.md D1 to D6, and for PFC_TAG6, which has none, a tag that is
not zero. DESIGN CHOICE (logs 3, 4, 21), unsafe. -/
def resetParams : Params where
  impl := 1#4
  ver := 1#4
  fpPresent := false
  cpPresent := false
  iftAsserted := false
  flowEnabled := false
  parityInCheck := true
  checker := false
  pfcTag6 := 1#6
  branchBase := .pc

/-- Every general register, Y, ir, and every f and c register. DESIGN CHOICE (logs 1, 36), unsafe. -/
def resetWord : Word := 0#32

/-- PSR.CWP. DESIGN CHOICE (log 2), unsafe. -/
def resetCwp : Window := 0#3

/-- PSR.PIL. DESIGN CHOICE (log 2), unsafe. -/
def resetPil : BitVec 4 := 0#4

/-- PSR.N, Z, V, C, EC, EF and PS. DESIGN CHOICE (log 2), unsafe. -/
def resetFlag : Bool := false

/-- WIM[7:0]. DESIGN CHOICE (log 2), unsafe. -/
def resetWim : BitVec 8 := 0#8

/-- TBR.TBA. DESIGN CHOICE (log 2), unsafe. -/
def resetTba : BitVec 20 := 0#20

/-- TBR.tt. DESIGN CHOICE (log 2), unsafe. -/
def resetTt : BitVec 8 := 0#8

/-- Which of so many registers have a wrong parity bit: none. DESIGN CHOICE (log 24), unsafe: the spec leaves the parity of a
register that nothing has written open (U3). -/
def resetParityBad (n : Nat) : BitVec n := 0#n

end Sys2Proof.Machine
end

