-- ==== Sys2Proof/Machine/State.lean ====
section
/-! DEFINITION. The state of the machine as plain data, its faults and refusals, and the state after reset. INVENTORY.md
lists every field with the rule that names it. -/

namespace Sys2Proof.Machine

/-- The three processor states (rule R55). -/
inductive Mode where
  /-- Instructions are fetched and executed. -/
  | execute
  /-- RESET is asserted (rule R500). -/
  | reset
  /-- A synchronous trap came with ET = 0: ERROR is asserted and only reset leaves (rules R430, R432). -/
  | error
deriving DecidableEq, Repr

/-- The integer condition codes, PSR[23:20] (rule R42). -/
structure Icc where
  /-- Negative, PSR[23]. -/
  n : Bool
  /-- Zero, PSR[22]. -/
  z : Bool
  /-- Overflow, PSR[21]. -/
  v : Bool
  /-- Carry, PSR[20]. -/
  c : Bool
deriving DecidableEq, Repr

/-- The writable fields of the PSR (rule R40). impl and ver are hardwired (Params), bits 19:14 have no storage (rule R43,
log 9), and CWP holds only 0 to 7 (rule R50). -/
structure Psr where
  /-- PSR[23:20]. -/
  icc : Icc
  /-- Enable coprocessor, PSR[13] (rule R44). -/
  ec : Bool
  /-- Enable floating-point unit, PSR[12] (rule R45). -/
  ef : Bool
  /-- Processor interrupt level, PSR[11:8] (rule R46). -/
  pil : BitVec 4
  /-- Supervisor, PSR[7] (rule R47). -/
  s : Bool
  /-- Previous supervisor, PSR[6] (rule R48). -/
  ps : Bool
  /-- Enable traps, PSR[5] (rule R49). -/
  et : Bool
  /-- Current window pointer, PSR[4:0] (rule R50). -/
  cwp : Window
deriving DecidableEq, Repr

/-- The FPU or the coprocessor as the IU's instructions reach it (rules R57, R363, R395). -/
structure Coproc where
  /-- The 32 f or c registers. -/
  regs : Vector Word 32
  /-- FSR or CSR; two of its bits are the condition codes FCC[1:0] or CCC[1:0] (rule R360). -/
  status : Word
  /-- FEXC or CEXC: an exception is pending. -/
  excPending : Bool
  /-- The exception mode state, left when the queue has been emptied (rule R363). -/
  excMode : Bool
  /-- The queue of launched, unfinished instructions with their addresses, front first (rules R363, R394). -/
  queue : List (Word × Word)
deriving DecidableEq, Repr

/-- The parity bits of so many registers, by what they can show (rules R450, R457; log 24). -/
structure ParityFlags (n : Nat) where
  /-- Bit i: the stored parity bit of register i does not match its contents. -/
  bad : BitVec n
  /-- Bit i: register i has not been written since power-up (rule R510). -/
  unwritten : BitVec n
deriving DecidableEq, Repr

/-- The two external units. -/
inductive UnitKind where
  /-- The floating-point unit. -/
  | fpu
  /-- The second coprocessor. -/
  | cp
deriving DecidableEq, Repr

/-- The size of a memory access. -/
inductive Size where
  | byte
  | half
  | word
  | dbl
deriving DecidableEq, Repr

/-- One request on the external bus (rule R90). -/
structure BusRequest where
  /-- A[31:0]. -/
  addr : Word
  /-- ASI[7:0]. -/
  asi : Asi
  /-- SIZE[1:0]. -/
  size : BitVec 2
  /-- RD: true for a read. -/
  rd : Bool
  /-- LDSTO: an atomic load-store. -/
  ldsto : Bool
  /-- LOCK: the bus is not released before the next request. -/
  lock : Bool
  /-- DXFER: true for data, false for an instruction fetch. -/
  dxfer : Bool
  /-- D[31:0] of a write, a byte or halfword repeated on every lane (rule R95); none for a read. -/
  data : Option Word
  /-- This chip drives the pins: false in a checker (rule R472). -/
  driven : Bool
deriving DecidableEq, Repr

/-- The six hardware error types (rules R405, R452). -/
inductive HwError where
  | restartablePrecise
  | nonRestartablePrecise
  | restartableLate
  | nonRestartableImprecise
  | registerFile
  | programFlow
deriving DecidableEq, Repr

/-- The places where a parity error is detected (rule R452, source Tables 41 and 42). -/
inductive ErrorSite where
  | registerFile
  | fetchStage
  | decodeStage
  | executeStage
  | writeStage
  | psr
  | wim
  | tbr
  | y
  | dataBusFetch
  | dataBusLoad
deriving DecidableEq, Repr

/-- The traps with a trap type (rules R17, R405); reset has none and is no member. -/
inductive Trap where
  | hardwareError (e : HwError)
  | instructionAccessException
  | illegalInstruction
  | privilegedInstruction
  | fpDisabled
  | cpDisabled
  | windowOverflow
  | windowUnderflow
  | memAddressNotAligned
  | fpException
  | cpException
  | dataAccessException
  | tagOverflow
  | trapInstruction (n : BitVec 7)
  | interruptLevel (n : BitVec 4)
deriving DecidableEq, Repr

/-- Output pins that pulse during a step (rules R360, R423, R501). -/
inductive Signal where
  /-- INST: an instruction is fetched. -/
  | inst
  /-- FLUSH: a trap is taken. -/
  | flush
  /-- INULL: a trap or a reset nullifies a fetch, or an annulled instruction was fetched (rules R96, R423, R501). -/
  | inull
  /-- INTACK: an external interrupt is taken. -/
  | intack
  /-- FXACK: the fp_exception trap is taken. -/
  | fxack
  /-- CXACK: the cp_exception trap is taken. -/
  | cxack
  /-- FINS1: the FPop in the FPU's decode buffer D1 is started. -/
  | fins1
  /-- FINS2: the FPop in the FPU's decode buffer D2 is started. -/
  | fins2
  /-- CINS1: the CPop in the coprocessor's decode buffer D1 is started. -/
  | cins1
  /-- CINS2: the CPop in the coprocessor's decode buffer D2 is started. -/
  | cins2
deriving DecidableEq, Repr

/-- The level of the HWERROR pin, and what ends it (rules R431, R456, R502; log 22). -/
inductive HwErrorLevel where
  /-- Deasserted. -/
  | off
  /-- Asserted until the instruction at this address is resumed, or a reset. -/
  | untilResumed (addr : Word)
  /-- Asserted until a reset: an error that no retry removes. -/
  | untilReset
deriving DecidableEq, Repr

/-- A byte that another bus master writes (rule R113). -/
structure BusWrite where
  asi : Asi
  addr : Word
  data : Byte
deriving DecidableEq, Repr

/-- The pins and events the environment drives (92_eei_decisions.md Part 2). -/
structure Inputs where
  /-- The RESET pin is asserted (rule R501). -/
  reset : Bool
  /-- The two-rail coding of RESET shows an error (rules R431, R501). -/
  resetFault : Bool
  /-- The HALT pin is asserted (rule R470). -/
  halt : Bool
  /-- IRL[3:0], synchronised (rule R440). -/
  irl : BitVec 4
  /-- The parity errors detected at this boundary (rules R452, R457). -/
  parityErrors : List ErrorSite
  /-- FIPAR does not match (rule R453). -/
  fiparError : Bool
  /-- What other bus masters write, in this order, between the fetch of the next instruction that executes and its data requests
  (rules R91, R113; log 42). -/
  busWrites : List BusWrite
deriving DecidableEq, Repr

/-- A window of accesses the memory system answers with MEXC: the predicate mexc(asi, addr, size, rd) of rule R100 as
data. -/
structure DenyRule where
  asiLo : Asi
  asiHi : Asi
  addrLo : Word
  addrHi : Word
  /-- Bit k: accesses whose SIZE is k. -/
  sizes : BitVec 4
  /-- Reads are denied. -/
  reads : Bool
  /-- Writes are denied. -/
  writes : Bool
deriving DecidableEq, Repr

/-- What the platform's memory system answers (rules R80, R100, decision D10). -/
structure Platform where
  /-- The ASIs other than 0x08 to 0x0B that the platform defines as memory, each with the ASI whose memory it names: itself for a
  space of its own, another (0x08 to 0x0B for the shared memory) for an alias (rule R82). -/
  spaces : List (Asi × Asi)
  /-- The accesses answered with MEXC. -/
  deny : List DenyRule
deriving DecidableEq, Repr

/-- The whole machine. -/
structure State where
  params : Params
  mode : Mode
  pc : Word
  npc : Word
  annul : Bool
  afterCondBranch : Bool
  psr : Psr
  wim : BitVec 8
  tba : BitVec 20
  tt : BitVec 8
  y : Word
  globals : Vector Word 8
  windows : Vector Word 128
  checksum : Word
  pfcSkip : Bool
  ir : Word
  regParity : ParityFlags 136
  controlParity : ParityFlags 4
  hwerror : HwErrorLevel
  fpu : Coproc
  cp : Coproc
  mem : List Host.Cell
  platform : Platform
  storeUndo1 : List Host.Cell
  storeUndo2 : List Host.Cell
  inputs : Inputs
  bus : List BusRequest
  signals : List Signal
  freeIdx : Nat
deriving DecidableEq, Repr

/-- Why a step has no next state. -/
inductive Fault where
  /-- PC is not word aligned. Raised by the step only. No run reaches such a state: nothing can place a misaligned value
  in PC or nPC (rule R32) and there is no trap type for it (rule R89). Safe. -/
  | pcNotAligned
deriving DecidableEq, Repr

/-- Why an instruction has no meaning. -/
inductive Refusal where
  /-- Raised by an arm of exec for an instruction that is not modelled yet. Safe. No arm uses it. -/
  | notModelled (mnemonic : String)
deriving DecidableEq, Repr

/-- What a step or a meaning answers. -/
abbrev Result := Host.Outcome State Fault Refusal

/-- A unit after power-up (log 36). -/
def Coproc.reset : Coproc where
  regs := Vector.replicate 32 resetWord
  status := resetWord
  excPending := false
  excMode := false
  queue := []

/-- The parity flags after power-up: no register has been written (rule R510). -/
def ParityFlags.reset (n : Nat) : ParityFlags n where
  bad := resetParityBad n
  unwritten := BitVec.allOnes n

/-- The inputs after reset: no pin asserted, no interrupt, no error (92_eei_decisions.md Part 2). -/
def Inputs.idle : Inputs where
  reset := false
  resetFault := false
  halt := false
  irl := 0#4
  parityErrors := []
  fiparError := false
  busWrites := []

/-- The machine right after a power-up reset (rules R60, R500, R503): ET = 0, S = 1, PC = 0, nPC = 4, annul = 0, mode
execute, checksum 0, checks enabled. What the rules leave unspecified has the value its log entry names. -/
def State.reset : State where
  params := resetParams
  mode := .execute
  pc := 0#32
  npc := 4#32
  annul := false
  afterCondBranch := false
  psr :=
    { icc := ⟨resetFlag, resetFlag, resetFlag, resetFlag⟩
      ec := resetFlag
      ef := resetFlag
      pil := resetPil
      s := true
      ps := resetFlag
      et := false
      cwp := resetCwp }
  wim := resetWim
  tba := resetTba
  tt := resetTt
  y := resetWord
  globals := Vector.replicate 8 resetWord
  windows := Vector.replicate 128 resetWord
  checksum := 0#32
  pfcSkip := false
  ir := resetWord
  regParity := ParityFlags.reset 136
  controlParity := ParityFlags.reset 4
  hwerror := .off
  fpu := Coproc.reset
  cp := Coproc.reset
  mem := []
  platform := { spaces := [], deny := [] }
  storeUndo1 := []
  storeUndo2 := []
  inputs := Inputs.idle
  bus := []
  signals := []
  freeIdx := 0

end Sys2Proof.Machine
end

