-- ==== Sys2Proof/Machine/Flags.lean ====
section
/-! DEFINITION. Every flag computation and every condition test of the spec. -/

namespace Sys2Proof.Machine

/-- A carry bit as a number. -/
def carryIn (c : Bool) : Word := if c then 1#32 else 0#32

/-- icc after a logical cc instruction (rule R231). -/
def iccLogic (res : Word) : Icc where
  n := res.msb
  z := res == 0#32
  v := false
  c := false

/-- icc after an addition a + b + cin (rule R232); the carry is computed on unbounded integers. -/
def iccAdd (a b : Word) (cin : Bool) : Icc where
  n := (a + b + carryIn cin).msb
  z := a + b + carryIn cin == 0#32
  v := a.msb == b.msb && (a + b + carryIn cin).msb != a.msb
  c := 2 ^ 32 ≤ a.toNat + b.toNat + (carryIn cin).toNat

/-- icc after a subtraction a - b - cin (rule R233); C is the borrow, computed on unbounded integers. -/
def iccSub (a b : Word) (cin : Bool) : Icc where
  n := (a - b - carryIn cin).msb
  z := a - b - carryIn cin == 0#32
  v := a.msb != b.msb && (a - b - carryIn cin).msb != a.msb
  c := a.toNat < b.toNat + (carryIn cin).toNat

/-- One of the operands of a tagged instruction has a nonzero tag (rule R264). -/
def tagged (a b : Word) : Bool := a.extractLsb' 0 2 != 0#2 || b.extractLsb' 0 2 != 0#2

/-- icc after a tagged addition (rule R264). -/
def iccTaggedAdd (a b : Word) : Icc :=
  { iccAdd a b false with v := (iccAdd a b false).v || tagged a b }

/-- icc after a tagged subtraction (rule R265). -/
def iccTaggedSub (a b : Word) : Icc :=
  { iccSub a b false with v := (iccSub a b false).v || tagged a b }

/-- The first operand of the multiply step's addition: a shifted right, N xor V entering at bit 31 (rule R270).
PRESUMED (log 29): the spec took the operation from outside its source. -/
def mulStepOp1 (f : Icc) (a : Word) : Word := BitVec.ofBool (f.n ^^ f.v) ++ a.extractLsb' 1 31

/-- The second operand of the multiply step's addition (rule R270). -/
def mulStepOp2 (y b : Word) : Word := if y.getLsbD 0 then b else 0#32

/-- Y after a multiply step (rule R270). -/
def mulStepY (y a : Word) : Word := a.extractLsb' 0 1 ++ y.extractLsb' 1 31

/-- The test of Bicc and Ticc (rule R301). -/
def iccTest (cond : BitVec 4) (f : Icc) : Bool :=
  match cond.toNat with
  | 0 => false
  | 1 => f.z
  | 2 => f.z || (f.n ^^ f.v)
  | 3 => f.n ^^ f.v
  | 4 => f.c || f.z
  | 5 => f.c
  | 6 => f.n
  | 7 => f.v
  | 8 => true
  | 9 => !f.z
  | 10 => !(f.z || (f.n ^^ f.v))
  | 11 => !(f.n ^^ f.v)
  | 12 => !(f.c || f.z)
  | 13 => !f.c
  | 14 => !f.n
  | _ => !f.v

/-- The relation the FPU last computed (rule R305). -/
inductive FpRelation where
  | equal
  | less
  | greater
  | unordered
deriving DecidableEq, Repr

/-- The encoding of the relation on FCC[1:0] (rule R305). PRESUMED (log 29). -/
def fpRelation (fcc : BitVec 2) : FpRelation :=
  match fcc.toNat with
  | 0 => .equal
  | 1 => .less
  | 2 => .greater
  | _ => .unordered

/-- The test of FBfcc (rule R305). -/
def fccTest (cond : BitVec 4) (fcc : BitVec 2) : Bool :=
  let r := fpRelation fcc
  match cond.toNat with
  | 0 => false
  | 1 => r == .less || r == .greater || r == .unordered
  | 2 => r == .less || r == .greater
  | 3 => r == .less || r == .unordered
  | 4 => r == .less
  | 5 => r == .greater || r == .unordered
  | 6 => r == .greater
  | 7 => r == .unordered
  | 8 => true
  | 9 => r == .equal
  | 10 => r == .equal || r == .unordered
  | 11 => r == .equal || r == .greater
  | 12 => r == .equal || r == .greater || r == .unordered
  | 13 => r == .equal || r == .less
  | 14 => r == .equal || r == .less || r == .unordered
  | _ => r == .equal || r == .less || r == .greater

/-- The test of CBccc on the value of CCC[1:0] (rule R307). -/
def cccTest (cond : BitVec 4) (ccc : BitVec 2) : Bool :=
  let v := ccc.toNat
  match cond.toNat with
  | 0 => false
  | 1 => v == 1 || v == 2 || v == 3
  | 2 => v == 1 || v == 2
  | 3 => v == 1 || v == 3
  | 4 => v == 1
  | 5 => v == 2 || v == 3
  | 6 => v == 2
  | 7 => v == 3
  | 8 => true
  | 9 => v == 0
  | 10 => v == 0 || v == 3
  | 11 => v == 0 || v == 2
  | 12 => v == 0 || v == 2 || v == 3
  | 13 => v == 0 || v == 1
  | 14 => v == 0 || v == 1 || v == 3
  | _ => v == 0 || v == 1 || v == 2

/-- The always condition, whose branches annul even when taken (rule R296). -/
def condAlways (cond : BitVec 4) : Bool := cond == 8#4

end Sys2Proof.Machine
end

