-- ==== Sys2Proof/Machine/Memory.lean ====
section
/-! DEFINITION. Memory as a list of (key, byte) cells in one canonical form, and reading and writing it byte by byte. A key
is an address space and a 32-bit address (rule R80). -/

namespace Sys2Proof.Machine

/-- What a byte of memory that nothing has written reads as. DESIGN CHOICE (log 5), unsafe. -/
def Memory.unlisted : Byte := 0#8

/-- ASIs 0x08 to 0x0B address one shared memory (rules R81, R82, decision D10, log 6). -/
def sharedAsi (asi : Asi) : Bool := 0x08#8 ≤ asi && asi ≤ 0x0B#8

/-- The number of the memory that belongs to an ASI: 0 is the shared one. Which memory an ASI other than 0x08 to 0x0B names is the
platform's (rule R82, Platform.target). -/
def asiSpace (asi : Asi) : Nat := if sharedAsi asi then 0 else asi.toNat + 1

/-- The key of a byte. -/
def memKey (asi : Asi) (addr : Word) : Nat := asiSpace asi * 2 ^ 32 + addr.toNat

/-- Read one byte. -/
def readCell : List Host.Cell → Nat → Byte
  | [], _ => Memory.unlisted
  | (a, b) :: rest, k => if a = k then b else readCell rest k

/-- Write one byte, keeping the canonical form: the value an unlisted byte reads as is not listed. -/
def writeCell : List Host.Cell → Nat → Byte → List Host.Cell
  | [], k, v => if v = Memory.unlisted then [] else [(k, v)]
  | (a, b) :: rest, k, v =>
    if k < a then (if v = Memory.unlisted then (a, b) :: rest else (k, v) :: (a, b) :: rest)
    else if a = k then (if v = Memory.unlisted then rest else (k, v) :: rest)
    else (a, b) :: writeCell rest k v

/-- Every key is above the bound, the keys rise strictly, and no cell holds what an unlisted byte reads as. -/
def Memory.wfAbove : Option Nat → List Host.Cell → Bool
  | _, [] => true
  | lo, (a, b) :: rest => lo.all (fun l => l < a) && b != Memory.unlisted && Memory.wfAbove (some a) rest

/-- The canonical form of memory. -/
def Memory.wf (m : List Host.Cell) : Bool := Memory.wfAbove none m

/-- Write consecutive bytes from an address on, the address modulo 2^32 (decision D7). -/
def writeSpan (m : List Host.Cell) (asi : Asi) : Word → List Byte → List Host.Cell
  | _, [] => m
  | a, b :: bs => writeSpan (writeCell m (memKey asi a) b) asi (a + 1#32) bs

/-- The cells that a write of so many consecutive bytes is about to overwrite, as they are now. -/
def oldSpan (m : List Host.Cell) (asi : Asi) : Word → List Byte → List Host.Cell
  | _, [] => []
  | a, _ :: bs => (memKey asi a, readCell m (memKey asi a)) :: oldSpan m asi (a + 1#32) bs

/-- The byte at a key as it was before the given cells were overwritten: the first listed value is the oldest. -/
def readBefore (undo m : List Host.Cell) (k : Nat) : Byte :=
  match undo with
  | [] => readCell m k
  | (a, b) :: rest => if a = k then b else readBefore rest m k

end Sys2Proof.Machine
end

