-- ==== Sys2Proof/Machine/Ops.lean ====
section
/-! DEFINITION. The named operations every meaning is written over: registers through the windows, the end of an
instruction, delayed transfers, taking a trap and leaving one, reset, the bus and memory. -/

namespace Sys2Proof.Machine

/-! ### Registers (rules R20 to R24) -/

/-- The index of r[n], n in 8..31, of window w among the 128 window registers (rule R24). -/
def winIndex (w : Window) (n : RegNum) : Nat := (16 * w.toNat + (n.toNat - 8)) % 128

/-- The physical register a name stands for (rules R22, R24): globals 0 to 7, window registers 8 to 135. Two names share
storage exactly when their numbers are equal. -/
def regIndex (w : Window) (n : RegNum) : Nat := if n.toNat < 8 then n.toNat else 8 + winIndex w n

/-- The bit of a register among the flags. -/
def ParityFlags.bit (n i : Nat) : BitVec n := BitVec.twoPow n i

/-- A register written: its parity bit matches again (rule R450). -/
def ParityFlags.written {n : Nat} (p : ParityFlags n) (i : Nat) : ParityFlags n where
  bad := p.bad &&& ~~~ParityFlags.bit n i
  unwritten := p.unwritten &&& ~~~ParityFlags.bit n i

/-- The registers other than r registers that have a parity bit (rule R450). -/
inductive ControlReg where
  | psr
  | wim
  | tbr
  | y
deriving DecidableEq, Repr

/-- The place of a control register among the parity flags. -/
def ControlReg.index : ControlReg → Nat
  | .psr => 0
  | .wim => 1
  | .tbr => 2
  | .y => 3

/-- An instruction has written a control register: its parity matches (rule R450). What traps, RETT, SAVE, RESTORE and flags do to
PSR and TBR writes a part of them and leaves their parity flags (DESIGN CHOICE, log 24). -/
def State.wroteControl (s : State) (r : ControlReg) : State :=
  { s with controlParity := s.controlParity.written r.index }

/-- rw[w][n]: r[n] as seen from window w (rules R23, R24). -/
def State.readRegIn (s : State) (w : Window) (n : RegNum) : Word :=
  if n = 0#5 then 0#32
  else if h : n.toNat < 8 then s.globals[n.toNat]
  else s.windows[winIndex w n]'(Nat.mod_lt _ (by decide))

/-- r[n] through the current window (rule R14). -/
def State.readReg (s : State) (n : RegNum) : Word := s.readRegIn s.psr.cwp n

/-- Write rw[w][n], with its parity (rule R450); a write of r[0] is discarded (rule R23). -/
def State.writeRegIn (s : State) (w : Window) (n : RegNum) (v : Word) : State :=
  { s with
    regParity := if n = 0#5 then s.regParity else s.regParity.written (regIndex w n)
    globals := if h : n.toNat < 8 then (if n = 0#5 then s.globals else s.globals.set n.toNat v) else s.globals
    windows := if n.toNat < 8 then s.windows else s.windows.set (winIndex w n) v (Nat.mod_lt _ (by decide)) }

/-- Write r[n] through the current window (rule R14). -/
def State.writeReg (s : State) (n : RegNum) (v : Word) : State := s.writeRegIn s.psr.cwp n v

/-- The even register of a pair (rule R186). -/
def evenReg (n : RegNum) : RegNum := n &&& 0b11110#5

/-- The odd register of a pair (rule R186). -/
def oddReg (n : RegNum) : RegNum := n ||| 1#5

/-- Write the integer condition codes. -/
def State.setIcc (s : State) (f : Icc) : State := { s with psr := { s.psr with icc := f } }

/-- Make a window current (rule R25). -/
def State.setCwp (s : State) (w : Window) : State := { s with psr := { s.psr with cwp := w } }

/-- The bit of WIM for a window (rule R52). -/
def State.windowInvalid (s : State) (w : Window) : Bool := s.wim.getLsbD w.toNat

/-- A used-up free value. -/
def State.useFree (s : State) (k : Nat) : State := { s with freeIdx := s.freeIdx + k }

/-- An output pin pulses. -/
def State.pulse (s : State) (p : Signal) : State := { s with signals := s.signals ++ [p] }

/-! ### The end of an instruction (rules R34, R461) -/

/-- The checksum after an instruction word, Program Flow Control being enabled or not (rule R461). -/
def State.checksumWith (s : State) (w : Word) : Word :=
  if s.params.flowEnabled then s.checksum ^^^ w else s.checksum

/-- What every executed instruction but a SETHI to r[0] does beside its own effect: its word enters the checksum (rule
R461), and it is no conditional branch (rule R299; a branch sets the flag after this). -/
def State.retire (s : State) : State :=
  { s with checksum := s.checksumWith s.ir, afterCondBranch := false }

/-- The default advance (rule R34), modulo 2^32 (rule R33). -/
def State.advance (s : State) : State := { s with pc := s.npc, npc := s.npc + 4#32 }

/-- An instruction that is no control transfer completes. -/
def State.complete (s : State) : Result := .next s.retire.advance

/-- A word-aligned free address (U1). -/
def freeAligned (k : Nat) : Word := Config.freeWord k &&& 0xFFFFFFFC#32

/-- The end of a delayed control transfer: PC takes nPC, nPC the given address (rule R291). As the second member of a couple
whose first is a conditional branch, both take free word-aligned values (rule R299, U1, log 15). -/
def State.transfer (s : State) (next : Word) : State :=
  { s with
    pc := if s.afterCondBranch then freeAligned s.freeIdx else s.npc
    npc := if s.afterCondBranch then freeAligned (s.freeIdx + 1) else next
    freeIdx := if s.afterCondBranch then s.freeIdx + 2 else s.freeIdx }

/-- The base of PC-relative targets (rule R292). -/
def State.branchBase (s : State) : Word :=
  match s.params.branchBase with
  | .pc => s.pc
  | .pcPlus4 => s.pc + 4#32

/-- The target of a branch (rules R143, R292): the displacement counts words. -/
def State.branchTarget (s : State) (disp22 : BitVec 22) : Word :=
  s.branchBase + (disp22 ++ 0#2).signExtend 32

/-- The target of a CALL (rules R143, R292). -/
def State.callTarget (s : State) (disp30 : BitVec 30) : Word := s.branchBase + (disp30 ++ 0#2)

/-- A branch whose test is decided (rules R291, R296, R300). -/
def State.branch (s : State) (cond : BitVec 4) (taken a : Bool) (disp22 : BitVec 22) : State :=
  { (s.transfer (if taken then s.branchTarget disp22 else s.npc + 4#32)).retire with
    annul := a && (condAlways cond || !taken)
    afterCondBranch := !condAlways cond }

/-! ### Traps (rules R405, R420, R430) -/

/-- The trap type of a hardware error (rule R452). -/
def HwError.tt : HwError → BitVec 8
  | .restartablePrecise => 0x61#8
  | .nonRestartablePrecise => 0x62#8
  | .restartableLate => 0x63#8
  | .nonRestartableImprecise => 0x64#8
  | .registerFile => 0x65#8
  | .programFlow => 0x66#8

/-- The priority among hardware errors, 1 the highest (rule R454). -/
def HwError.priority : HwError → Nat
  | .nonRestartableImprecise => 1
  | .nonRestartablePrecise => 2
  | .registerFile => 3
  | .restartableLate => 4
  | .restartablePrecise => 5
  | .programFlow => 6

/-- The trap type tt (rule R405). -/
def Trap.tt : Trap → BitVec 8
  | .hardwareError e => e.tt
  | .instructionAccessException => 0x01#8
  | .illegalInstruction => 0x02#8
  | .privilegedInstruction => 0x03#8
  | .fpDisabled => 0x04#8
  | .cpDisabled => 0x24#8
  | .windowOverflow => 0x05#8
  | .windowUnderflow => 0x06#8
  | .memAddressNotAligned => 0x07#8
  | .fpException => 0x08#8
  | .cpException => 0x28#8
  | .dataAccessException => 0x09#8
  | .tagOverflow => 0x0A#8
  | .trapInstruction n => 1#1 ++ n
  | .interruptLevel n => 0x1#4 ++ n

/-- The priority of a trap, 1 being reset's (rule R405). The meanings test in this order (rule R410). -/
def Trap.priority : Trap → Nat
  | .hardwareError _ => 2
  | .instructionAccessException => 3
  | .illegalInstruction => 4
  | .privilegedInstruction => 5
  | .fpDisabled => 6
  | .cpDisabled => 6
  | .windowOverflow => 7
  | .windowUnderflow => 7
  | .memAddressNotAligned => 8
  | .fpException => 9
  | .cpException => 9
  | .dataAccessException => 10
  | .tagOverflow => 11
  | .trapInstruction _ => 12
  | .interruptLevel n => 28 - n.toNat

/-- The output pins a trap pulses (rules R423, R363). -/
def Trap.signals : Trap → List Signal
  | .fpException => [.fxack, .flush, .inull]
  | .cpException => [.cxack, .flush, .inull]
  | .interruptLevel _ => [.intack, .flush, .inull]
  | _ => [.flush, .inull]

/-- A unit whose exception trap is taken: FEXC is deasserted and exception mode entered (rule R363). -/
def Coproc.acknowledge (u : Coproc) : Coproc := { u with excPending := false, excMode := true }

/-- The address of a trap's handler: TBA ++ tt ++ 0000 (rules R420, R421). -/
def State.vector (s : State) (tt : BitVec 8) : Word := s.tba ++ tt ++ 0#4

/-- Taking a trap: every line of rule R420, and with ET = 0 error mode (rule R430). PC and nPC are those before the trap;
they go to r[17] and r[18] of the new window, WIM not being consulted. The prefetched words are dropped (rule R118).

DESIGN CHOICE (log 15), unsafe: rules R299 and R524 do not say whether a trap or interrupt taken between a conditional branch
and the control transfer in its delay slot still makes the two a case 6 couple when that transfer runs after the return. Here it
does not: afterCondBranch is cleared, so the transfer is an ordinary one. -/
def State.takeTrap (t : Trap) (s : State) : State :=
  let w := s.psr.cwp - 1#3
  { s with
    mode := if s.psr.et then s.mode else .error
    psr := { s.psr with et := false, ps := s.psr.s, s := true, cwp := w }
    windows := ((s.writeRegIn w 17#5 s.pc).writeRegIn w 18#5 s.npc).windows
    regParity := ((s.writeRegIn w 17#5 s.pc).writeRegIn w 18#5 s.npc).regParity
    tt := t.tt
    pc := s.vector t.tt
    npc := s.vector t.tt + 4#32
    annul := false
    afterCondBranch := false
    pfcSkip := s.params.flowEnabled || s.pfcSkip
    fpu := if t = .fpException then s.fpu.acknowledge else s.fpu
    cp := if t = .cpException then s.cp.acknowledge else s.cp
    storeUndo1 := []
    storeUndo2 := []
    signals := s.signals ++ t.signals }

/-- raise T (rules R14, R402): the instruction has changed nothing, the trap is taken. -/
def State.raise (t : Trap) (s : State) : Result := .next (s.takeTrap t)

/-- The check of a privileged instruction (rule R480). -/
def State.supervisorOnly (s : State) (r : Result) : Result :=
  if s.psr.s then r else s.raise .privilegedInstruction

/-- The return from a trap once every check has passed (rules R320, R448): the window, ET and S are restored, PS stays, the
next check of Program Flow Control is disabled (rule R463). -/
def State.returnFromTrap (s : State) (target : Word) : State :=
  { (s.transfer target).retire with
    psr := { s.psr with cwp := s.psr.cwp + 1#3, et := true, s := s.psr.ps }
    pfcSkip := s.params.flowEnabled || s.pfcSkip }

/-- RESET is deasserted (rule R500): ET, S, PC, nPC, annul and the checker's state, nothing else; the pipeline is empty, and the
first fetch is that of the next step (rule R533). -/
def State.leaveReset (s : State) : State :=
  { s with
    mode := .execute
    psr := { s.psr with et := false, s := true }
    pc := 0#32
    npc := 4#32
    annul := false
    afterCondBranch := false
    checksum := 0#32
    pfcSkip := false
    storeUndo1 := []
    storeUndo2 := [] }

/-! ### Hardware errors and interrupts (rules R440, R450 to R457) -/

/-- The error type of a place (rule R452). -/
def ErrorSite.error : ErrorSite → HwError
  | .registerFile => .registerFile
  | .fetchStage => .restartablePrecise
  | .decodeStage => .nonRestartablePrecise
  | .executeStage => .nonRestartableImprecise
  | .writeStage => .nonRestartableImprecise
  | .psr => .nonRestartableImprecise
  | .wim => .nonRestartablePrecise
  | .tbr => .nonRestartablePrecise
  | .y => .restartablePrecise
  | .dataBusFetch => .restartablePrecise
  | .dataBusLoad => .restartableLate

/-- Whether a place is checked: the data bus only when 601MODE is HIGH (rule R455). -/
def checksSite (p : Params) : ErrorSite → Bool
  | .dataBusFetch => p.parityInCheck
  | .dataBusLoad => p.parityInCheck
  | _ => true

/-- The error of the highest priority in a list (rule R454). -/
def worstError : List HwError → Option HwError
  | [] => none
  | e :: es =>
    match worstError es with
    | none => some e
    | some f => if e.priority ≤ f.priority then some e else some f

/-- The hardware error to be taken at this boundary, if any. -/
def State.hwError (s : State) : Option HwError :=
  worstError ((s.inputs.parityErrors.filter (checksSite s.params)).map ErrorSite.error)

/-- HWERROR is asserted for an error at an instruction (rules R431, R456): until that instruction is resumed, or, for an error that
no retry removes, until a reset (log 22). DESIGN CHOICE (log 22), unsafe: a second error while the pin waits for an earlier
instruction replaces the address it waits for, which the spec leaves open. -/
def HwErrorLevel.raised (h : HwErrorLevel) (e : HwError) (pc : Word) : HwErrorLevel :=
  if h = .untilReset ∨ e = .nonRestartableImprecise then .untilReset else .untilResumed pc

/-- The instruction at an address is resumed: the error at it is removed (rule R456). -/
def HwErrorLevel.resumed (h : HwErrorLevel) (pc : Word) : HwErrorLevel := if h = .untilResumed pc then .off else h

/-- Taking a hardware-error trap of types 0x61 to 0x65 (rule R456). The events are consumed, HWERROR is asserted. For type 0x64
r[17] and r[18] of the trap window are free values (U5, log 22). -/
def State.takeHwError (e : HwError) (s : State) : State :=
  let s1 : State :=
    { s with inputs := { s.inputs with parityErrors := [] }, hwerror := s.hwerror.raised e s.pc }
  let t := s1.takeTrap (.hardwareError e)
  if e = .nonRestartableImprecise then
    ((t.writeReg 17#5 (Config.freeWord t.freeIdx)).writeReg 18#5 (Config.freeWord (t.freeIdx + 1))).useFree 2
  else t

/-- An interrupt is accepted at this boundary (rule R440): level 15 is not masked by PIL, ET = 0 masks every level. -/
def State.interruptPending (s : State) : Bool :=
  s.psr.et && s.inputs.irl != 0#4 && (s.inputs.irl == 15#4 || s.psr.pil < s.inputs.irl)

/-! ### The bus and memory (rules R80 to R102) -/

/-- The number of bytes of an access. -/
def Size.bytes : Size → Nat
  | .byte => 1
  | .half => 2
  | .word => 4
  | .dbl => 8

/-- SIZE[1:0] (rule R90). -/
def Size.code : Size → BitVec 2
  | .byte => 0b00#2
  | .half => 0b01#2
  | .word => 0b10#2
  | .dbl => 0b11#2

/-- The address is a multiple of the access size (rules R88, R172). -/
def Size.aligned (z : Size) (ea : Word) : Bool := ea.toNat % z.bytes == 0

/-- The alignment check of a load or store (rules R88, R171 step 4). -/
def State.whenAligned (s : State) (z : Size) (ea : Word) (r : Result) : Result :=
  if z.aligned ea then r else s.raise .memAddressNotAligned

/-- The ASI of an instruction fetch (rule R85). -/
def State.fetchAsi (s : State) : Asi := if s.psr.s then 0x09#8 else 0x08#8

/-- The ASI of an ordinary data access (rule R85). -/
def State.dataAsi (s : State) : Asi := if s.psr.s then 0x0B#8 else 0x0A#8

/-- A deny window covers a request. -/
def DenyRule.covers (d : DenyRule) (r : BusRequest) : Bool :=
  d.asiLo ≤ r.asi && r.asi ≤ d.asiHi && d.addrLo ≤ r.addr && r.addr ≤ d.addrHi
    && d.sizes.getLsbD r.size.toNat && (if r.rd then d.reads else d.writes)

/-- The memory system answers a request with MEXC (rule R100): an ASI the platform does not define, or a denied window
(decision D10, logs 6, 7). -/
def State.refuses (s : State) (r : BusRequest) : Bool :=
  !(sharedAsi r.asi || (s.platform.spaces.lookup r.asi).isSome) || s.platform.deny.any (fun d => d.covers r)

/-- Put a request on the bus. -/
def State.request (s : State) (r : BusRequest) : State := { s with bus := s.bus ++ [r] }

/-- An instruction fetch as a request (rule R91). -/
def State.fetchRequest (s : State) : BusRequest where
  addr := s.pc
  asi := s.fetchAsi
  size := Size.word.code
  rd := true
  ldsto := false
  lock := false
  dxfer := false
  data := none
  driven := !s.params.checker

/-- A data access as a request (rule R91): a write has the data it drives, a read none. -/
def State.dataRequest (s : State) (asi : Asi) (ea : Word) (z : Size) (ldsto lock : Bool)
    (data : Option Word) : BusRequest where
  addr := ea
  asi := asi
  size := z.code
  rd := data.isNone
  ldsto := ldsto
  lock := lock
  dxfer := true
  data := data
  driven := !s.params.checker

/-- The ASI whose memory an ASI names: 0x08 to 0x0B the shared one, another what the platform says (rule R82, log 6). -/
def Platform.target (p : Platform) (asi : Asi) : Asi := if sharedAsi asi then asi else (p.spaces.lookup asi).getD asi

/-- The key of a byte as an ASI and an address name it. -/
def State.byteKey (s : State) (asi : Asi) (a : Word) : Nat := memKey (s.platform.target asi) a

/-- One byte of memory. -/
def State.readByte (s : State) (asi : Asi) (a : Word) : Byte := readCell s.mem (s.byteKey asi a)

/-- A big-endian halfword (rule R87). -/
def State.readHalf (s : State) (asi : Asi) (a : Word) : BitVec 16 :=
  s.readByte asi a ++ s.readByte asi (a + 1#32)

/-- A big-endian word (rule R87). -/
def State.readWord (s : State) (asi : Asi) (a : Word) : Word :=
  s.readByte asi a ++ s.readByte asi (a + 1#32) ++ s.readByte asi (a + 2#32) ++ s.readByte asi (a + 3#32)

/-- The two bytes of a halfword, the most significant first (rule R87). -/
def bytesOfHalf (v : BitVec 16) : List Byte := [v.extractLsb' 8 8, v.extractLsb' 0 8]

/-- The four bytes of a word, the most significant first (rule R87). -/
def bytesOfData (v : Word) : List Byte :=
  [v.extractLsb' 24 8, v.extractLsb' 16 8, v.extractLsb' 8 8, v.extractLsb' 0 8]

/-- D[31:0] for the bytes of a write: a byte on all four lanes, a halfword on both (rule R95). -/
def busData : List Byte → Word
  | [b] => b ++ b ++ b ++ b
  | [h, l] => h ++ l ++ h ++ l
  | [a, b, c, d] => a ++ b ++ c ++ d
  | _ => 0#32

/-- Store consecutive bytes, keeping what they overwrote for the two prefetched instructions (rule R118, log 12). -/
def State.storeBytes (s : State) (asi : Asi) (a : Word) (bs : List Byte) : State :=
  { s with
    mem := writeSpan s.mem (s.platform.target asi) a bs
    storeUndo1 := s.storeUndo1 ++ oldSpan s.mem (s.platform.target asi) a bs }

/-- One read request. Refused, it raises data_access_exception (rule R100) in the state that onFail leaves. -/
def State.readAccess (s : State) (asi : Asi) (ea : Word) (z : Size) (ldsto lock : Bool) (onFail : State → State)
    (go : State → Result) : Result :=
  let r := s.dataRequest asi ea z ldsto lock none
  if s.refuses r then ((onFail s).request r).raise .dataAccessException else go (s.request r)

/-- One write request of some bytes. Refused, memory is not changed (rule R102). -/
def State.writeAccess (s : State) (asi : Asi) (ea : Word) (z : Size) (ldsto lock : Bool) (bs : List Byte)
    (onFail : State → State) (go : State → Result) : Result :=
  let r := s.dataRequest asi ea z ldsto lock (some (busData bs))
  if s.refuses r then ((onFail s).request r).raise .dataAccessException else go ((s.request r).storeBytes asi ea bs)

/-- Two words written, the first at the lower address, the bus locked between them (rules R91, R93). MEXC on the second leaves
the first written (rule R102). -/
def State.storeTwo (s : State) (asi : Asi) (ea hi lo : Word) (go : State → Result) : Result :=
  s.writeAccess asi ea .dbl false true (bytesOfData hi) id fun t1 =>
    t1.writeAccess asi (ea + 4#32) .dbl false false (bytesOfData lo) id go

end Sys2Proof.Machine
end

