-- ==== Sys2Proof/Machine/Fetch.lean ====
section
/-! DEFINITION. Fetching an instruction word. Instructions are fetched from the shared memory, big-endian (rules R85, R87). The
first two instructions after a store execute the old or the new word (rule R118, D12, log 12). -/

namespace Sys2Proof.Machine

/-- The instruction word at an address with the given cells as they were before being overwritten (rule R87). -/
def wordBefore (undo m : List Host.Cell) (asi : Asi) (a : Word) : Word :=
  wordOfBytes (readBefore undo m (memKey asi a)) (readBefore undo m (memKey asi (a + 1#32)))
    (readBefore undo m (memKey asi (a + 2#32))) (readBefore undo m (memKey asi (a + 3#32)))

/-- The word at PC now. -/
def State.wordNow (s : State) : Word := wordBefore [] s.mem (s.platform.target s.fetchAsi) s.pc

/-- The word at PC before the store of the instruction before. -/
def State.wordBeforeOne (s : State) : Word := wordBefore s.storeUndo1 s.mem (s.platform.target s.fetchAsi) s.pc

/-- The word at PC before the stores of the two instructions before. -/
def State.wordBeforeTwo (s : State) : Word := wordBefore (s.storeUndo2 ++ s.storeUndo1) s.mem (s.platform.target s.fetchAsi) s.pc

/-- No store of the two instructions before changed the word at PC. -/
def State.fetchStable (s : State) : Bool := s.wordBeforeOne == s.wordNow && s.wordBeforeTwo == s.wordNow

/-- The word fetched: the one in memory, or after a recent store any of the words the prefetch may hold, a free choice. -/
def State.fetchWord (s : State) : Word :=
  if s.fetchStable then s.wordNow
  else if Config.freeBit s.freeIdx then s.wordNow
  else if Config.freeBit (s.freeIdx + 1) then s.wordBeforeOne
  else s.wordBeforeTwo

/-- The request of the fetch is put on the bus, and INST pulses (rules R91, R360). -/
def State.requestFetch (s : State) : State :=
  { s with bus := s.bus ++ [s.fetchRequest], signals := s.signals ++ [.inst] }

/-- The fetch makes its request and puts its word into the instruction register (rules R91, R530). -/
def State.readInstr (s : State) : State :=
  { s with
    bus := s.bus ++ [s.fetchRequest]
    signals := s.signals ++ [.inst]
    ir := s.fetchWord
    freeIdx := if s.fetchStable then s.freeIdx else s.freeIdx + 2 }

/-- The state in which a fetched instruction executes: one more instruction has come after the stores before it (rule R118), and
the instruction at PC is resumed, which ends HWERROR if that waited for it (rule R456). -/
def State.fetched (s : State) : State :=
  { s.readInstr with storeUndo1 := [], storeUndo2 := s.storeUndo1, hwerror := s.hwerror.resumed s.pc }

/-- A word placed in the shared memory where the next instruction is fetched, every byte in its order (rule R87), and nothing
that keeps the next step from executing it (log 33). -/
def State.placeWord (s : State) (w : Word) : State :=
  { s with
    mode := .execute
    pc := s.pc &&& 0xFFFFFFFC#32
    annul := false
    mem := writeSpan s.mem 0x09#8 (s.pc &&& 0xFFFFFFFC#32) (bytesOfWord w)
    platform := { s.platform with deny := [] }
    storeUndo1 := []
    storeUndo2 := []
    regParity := { s.regParity with bad := 0#136 }
    controlParity := { s.controlParity with bad := 0#4 }
    inputs := { s.inputs with reset := false, resetFault := false, halt := false, irl := 0#4, parityErrors := [] } }

end Sys2Proof.Machine
end

