-- ==== Sys2Proof/Machine/Operands.lean ====
section
/-! DEFINITION. Every operand form: the second operand, effective addresses, shift counts, trap numbers. -/

namespace Sys2Proof.Machine

/-- op2val: r[rs2] or the sign-extended constant (rule R140). -/
def State.op2val (s : State) : Operand2 → Word
  | .reg rs2 => s.readReg rs2
  | .imm simm13 => simm13.signExtend 32

/-- The effective address r[rs1] + op2val modulo 2^32 (rule R141). -/
def State.effAddr (s : State) (rs1 : RegNum) (op2 : Operand2) : Word := s.readReg rs1 + s.op2val op2

/-- The effective address of an alternate-space form (rule R200). -/
def State.altAddr (s : State) (rs1 rs2 : RegNum) : Word := s.readReg rs1 + s.readReg rs2

/-- The shift count, 0 to 31 (rule R142). The register form's low five bits are PRESUMED (log 29). -/
def State.shiftCount (s : State) : ShiftCount → BitVec 5
  | .reg rs2 => (s.readReg rs2).extractLsb' 0 5
  | .imm shcnt => shcnt

/-- The software trap number (rule R145). -/
def State.trapNumber (s : State) (rs1 : RegNum) (op2 : Operand2) : BitVec 7 := (s.effAddr rs1 op2).extractLsb' 0 7

/-- The value a WR instruction writes: r[rs1] xor op2val (rule R344). PRESUMED (log 29). -/
def State.writeValue (s : State) (rs1 : RegNum) (op2 : Operand2) : Word := s.readReg rs1 ^^^ s.op2val op2

/-- SETHI's constant: imm22 in the high bits, zeros below (rule R144). -/
def sethiValue (imm22 : BitVec 22) : Word := imm22 ++ 0#10

end Sys2Proof.Machine
end

