-- ==== Sys2Proof/Machine/Control.lean ====
section
/-! DEFINITION. Reading and writing Y, PSR, WIM and TBR (43_control_registers.md). A write takes effect at the end of the
instruction (rule R350, D17, log 16). -/

namespace Sys2Proof.Machine

/-- The PSR as RDPSR reads it (rules R40, R341). -/
def State.psrWord (s : State) : Word :=
  s.params.impl ++ s.params.ver ++ BitVec.ofBool s.psr.icc.n ++ BitVec.ofBool s.psr.icc.z ++ BitVec.ofBool s.psr.icc.v
    ++ BitVec.ofBool s.psr.icc.c ++ 0#6 ++ BitVec.ofBool s.psr.ec ++ BitVec.ofBool s.psr.ef ++ s.psr.pil
    ++ BitVec.ofBool s.psr.s ++ BitVec.ofBool s.psr.ps ++ BitVec.ofBool s.psr.et ++ 0#2 ++ s.psr.cwp

/-- WIM as RDWIM reads it (rules R52, R342). -/
def State.wimWord (s : State) : Word := 0#24 ++ s.wim

/-- TBR as RDTBR reads it (rules R53, R343). -/
def State.tbrWord (s : State) : Word := s.tba ++ s.tt ++ 0#4

/-- The PSR that a WRPSR of a value leaves (rule R346). -/
def psrOfWord (v : Word) : Psr where
  icc := ⟨v.getLsbD 23, v.getLsbD 22, v.getLsbD 21, v.getLsbD 20⟩
  ec := v.getLsbD 13
  ef := v.getLsbD 12
  pil := v.extractLsb' 8 4
  s := v.getLsbD 7
  ps := v.getLsbD 6
  et := v.getLsbD 5
  cwp := v.extractLsb' 0 3

/-- The value names no window (rule R346, D18, log 17). -/
def badCwp (v : Word) : Bool := 8#5 ≤ v.extractLsb' 0 5

/-- RDY (rule R340). -/
def execRdy (rd : RegNum) (s : State) : Result := (s.writeReg rd s.y).complete

/-- RDPSR (rule R341). -/
def execRdpsr (rd : RegNum) (s : State) : Result := s.supervisorOnly (s.writeReg rd s.psrWord).complete

/-- RDWIM (rule R342). -/
def execRdwim (rd : RegNum) (s : State) : Result := s.supervisorOnly (s.writeReg rd s.wimWord).complete

/-- RDTBR (rule R343). -/
def execRdtbr (rd : RegNum) (s : State) : Result := s.supervisorOnly (s.writeReg rd s.tbrWord).complete

/-- WRY (rule R345). -/
def execWry (rs1 : RegNum) (op2 : Operand2) (s : State) : Result :=
  (State.wroteControl { s with y := s.writeValue rs1 op2 } .y).complete

/-- WRPSR (rule R346). -/
def execWrpsr (rs1 : RegNum) (op2 : Operand2) (s : State) : Result :=
  if badCwp (s.writeValue rs1 op2) then s.raise .illegalInstruction
  else s.supervisorOnly (State.wroteControl { s with psr := psrOfWord (s.writeValue rs1 op2) } .psr).complete

/-- WRWIM (rule R348). -/
def execWrwim (rs1 : RegNum) (op2 : Operand2) (s : State) : Result :=
  s.supervisorOnly (State.wroteControl { s with wim := (s.writeValue rs1 op2).extractLsb' 0 8 } .wim).complete

/-- WRTBR (rule R349). -/
def execWrtbr (rs1 : RegNum) (op2 : Operand2) (s : State) : Result :=
  s.supervisorOnly (State.wroteControl { s with tba := (s.writeValue rs1 op2).extractLsb' 12 20 } .tbr).complete

end Sys2Proof.Machine
end

