-- ==== Sys2Proof/Machine/Parity.lean ====
section
/-! DEFINITION. The registers an instruction word reads, the parity check on them, and the upset of a stored bit (rules R450,
R452, R457, R510). Which reads count as uses of a register is DEDUCED (log 24). -/

namespace Sys2Proof.Machine

/-! ### The registers a word reads -/

/-- op3 of the RD instructions, of the operate instructions of the units and of IFLUSH, whose address nobody computes: they read no
r register (rules R339, R364, R381). -/
def readsNoReg (op3 : BitVec 6) : Bool := (40#6 ≤ op3 && op3 ≤ 43#6) || (52#6 ≤ op3 && op3 ≤ 55#6) || op3 == 59#6

/-- The word reads r[rs1]: every format 3 word but those. -/
def readsRs1 (w : Word) : Bool := fieldOp w == 3#2 || (fieldOp w == 2#2 && !readsNoReg (fieldOp3 w))

/-- The word reads r[rs2]: so, with i = 0. -/
def readsRs2 (w : Word) : Bool := readsRs1 w && fieldI w == 0#1

/-- op3 of the stores of r registers and of SWAP, normal and alternate (rule R149). -/
def storesReg (op3 : BitVec 6) : Bool := [4#6, 5#6, 6#6, 7#6, 15#6, 20#6, 21#6, 22#6, 23#6, 31#6].contains op3

/-- op3 of STD and STDA, which store a pair. -/
def storesPair (op3 : BitVec 6) : Bool := op3 == 7#6 || op3 == 23#6

/-- The r registers a word reads. -/
def sourceRegs (w : Word) : List RegNum :=
  (if readsRs1 w then [fieldRs1 w] else []) ++ (if readsRs2 w then [fieldRs2 w] else []) ++
    if fieldOp w == 3#2 && storesReg (fieldOp3 w) then
      if storesPair (fieldOp3 w) then [evenReg (fieldRd w), oddReg (fieldRd w)] else [fieldRd w]
    else []

/-- The word tests or adds the integer condition codes, reads the PSR, or moves CWP from what it was: a Bicc or Ticc with a
condition to test, ADDX, ADDXcc, SUBX, SUBXcc, MULScc, RDPSR, RETT, SAVE, RESTORE. -/
def readsPsr (w : Word) : Bool :=
  (fieldOp w == 0#2 && fieldOpTwo w == 2#3 && (fieldCond w).extractLsb' 0 3 != 0#3) ||
    (fieldOp w == 2#2 &&
      ([8#6, 12#6, 24#6, 28#6, 36#6, 41#6, 57#6, 60#6, 61#6].contains (fieldOp3 w) ||
        (fieldOp3 w == 58#6 && (fieldCond w).extractLsb' 0 3 != 0#3)))

/-- The word reads WIM: RDWIM, RETT, SAVE, RESTORE. -/
def readsWim (w : Word) : Bool := fieldOp w == 2#2 && [42#6, 57#6, 60#6, 61#6].contains (fieldOp3 w)

/-- The word reads TBR: RDTBR. -/
def readsTbr (w : Word) : Bool := fieldOp w == 2#2 && fieldOp3 w == 43#6

/-- The word reads Y: RDY, MULScc. -/
def readsY (w : Word) : Bool := fieldOp w == 2#2 && [36#6, 40#6].contains (fieldOp3 w)

/-- The control registers a word reads. -/
def sourceControls (w : Word) : List ControlReg :=
  (if readsPsr w then [.psr] else []) ++ (if readsWim w then [.wim] else []) ++ (if readsTbr w then [.tbr] else []) ++
    if readsY w then [.y] else []

/-- The physical registers a word reads through the current window; r[0] needs no parity (rule R510). -/
def State.sourceIndices (s : State) (w : Word) : List Nat :=
  ((sourceRegs w).filter (· != 0#5)).map (regIndex s.psr.cwp)

/-! ### The check -/

/-- The error of a control register with a wrong parity bit (rule R452). -/
def ControlReg.error : ControlReg → HwError
  | .psr => ErrorSite.psr.error
  | .wim => ErrorSite.wim.error
  | .tbr => ErrorSite.tbr.error
  | .y => ErrorSite.y.error

/-- The hardware errors of the registers with a wrong parity bit that a word reads (rules R452, R457). -/
def State.sourceErrors (s : State) (w : Word) : List HwError :=
  ((s.sourceIndices w).filter s.regParity.bad.getLsbD).map (fun _ => ErrorSite.registerFile.error) ++
    ((sourceControls w).filter fun r => s.controlParity.bad.getLsbD r.index).map ControlReg.error

/-- The worst of them (rule R454). -/
def State.sourceError (s : State) (w : Word) : Option HwError := worstError (s.sourceErrors w)

/-- A word reads a register that nothing has written since power-up: what rule R510 asks programs not to do. -/
def State.readsUnwritten (s : State) (w : Word) : Bool :=
  (s.sourceIndices w).any s.regParity.unwritten.getLsbD ||
    (sourceControls w).any fun r => s.controlParity.unwritten.getLsbD r.index

/-! ### The upset event (rule R457) -/

/-- A particle flips one stored bit of a physical register, without its parity bit; r[0] has none to flip. -/
def State.upsetReg (s : State) (i : Nat) (b : BitVec 5) : State :=
  if h : 0 < i ∧ i < 8 then
    { s with
      globals := s.globals.set i (s.globals[i] ^^^ (1#32 <<< b.toNat))
      regParity := { s.regParity with bad := s.regParity.bad ^^^ ParityFlags.bit 136 i } }
  else if h : 8 ≤ i ∧ i < 136 then
    { s with
      windows := s.windows.set (i - 8) (s.windows[i - 8] ^^^ (1#32 <<< b.toNat))
      regParity := { s.regParity with bad := s.regParity.bad ^^^ ParityFlags.bit 136 i } }
  else s

/-- One bit of a control register flipped; a bit without storage cannot flip. -/
def State.flipControl (s : State) (r : ControlReg) (b : BitVec 5) : State :=
  match r with
  | .psr => { s with psr := psrOfWord (s.psrWord ^^^ (1#32 <<< b.toNat)) }
  | .wim => { s with wim := s.wim ^^^ (1#8 <<< b.toNat) }
  | .tbr =>
    { s with
      tba := (s.tbrWord ^^^ (1#32 <<< b.toNat)).extractLsb' 12 20
      tt := (s.tbrWord ^^^ (1#32 <<< b.toNat)).extractLsb' 4 8 }
  | .y => { s with y := s.y ^^^ (1#32 <<< b.toNat) }

/-- A particle flips one stored bit of a control register, without its parity bit. -/
def State.upsetControl (s : State) (r : ControlReg) (b : BitVec 5) : State :=
  if s.flipControl r b = s then s
  else
    { s.flipControl r b with
      controlParity := { s.controlParity with bad := s.controlParity.bad ^^^ ParityFlags.bit 4 r.index } }

end Sys2Proof.Machine
end

