-- ==== Sys2Proof/Machine/Cycle.lean ====
section
/-! DEFINITION. The order of events of one step (rule R485), over the meaning of an instruction. -/

namespace Sys2Proof.Machine

/-- The word is a SETHI to r[0], which never enters the checksum (rule R461). -/
def sethiZero (w : Word) : Bool := fieldOp w == 0#2 && fieldOpTwo w == 4#3 && fieldRd w == 0#5

/-- The bus log and the output pulses are those of one step (log 32). -/
def State.quiet (s : State) : State := { s with bus := [], signals := [] }

/-- RESET is asserted (rules R500, R501, R502): no instruction executes, parity is not checked, HWERROR is deasserted, INULL
nullifies the fetch in progress; no request is made until RESET is deasserted (rule R533). DESIGN CHOICE (log 32), unsafe: INULL
is pulsed in every step in which RESET is asserted, in reset and in error mode too, where no fetch is in progress (rule R501 does
not say how long it lasts); and FLUSH, asserted "whenever it takes a trap" (rule R360), is not pulsed, though rule R400 counts
reset among the traps. -/
def State.enterReset (s : State) : State :=
  { (s.pulse .inull) with mode := .reset, hwerror := .off, inputs := { s.inputs with parityErrors := [] } }

/-- An error in the two-rail coding of RESET leads to error mode (rules R431, R501; log 23). -/
def State.enterErrorMode (s : State) : State := { s with mode := .error }

/-- The step over an annulled instruction (rules R297, R461): it is fetched, MEXC ignored (rule R101), and has no effect but
on the checksum. INULL flags its fetch (rule R96). -/
def State.annulStep (s : State) : State :=
  State.advance
    { s.readInstr.pulse .inull with
      checksum := if sethiZero s.fetchWord then s.checksum else s.checksumWith s.fetchWord
      annul := false
      afterCondBranch := false }

/-- Other bus masters have the bus between the fetch of an instruction and its data requests: LOCK is asserted only among the latter
(rules R91, R113; log 42). -/
def State.otherMasters (s : State) : State :=
  { s with
    mem := s.inputs.busWrites.foldl (fun m w => writeCell m (s.byteKey w.asi w.addr) w.data) s.mem
    inputs := { s.inputs with busWrites := [] } }

/-- Executing the fetched word (rules R154, R382, R485): what the decoder refuses is an illegal instruction. A wrong parity bit on a
register that the instruction reads is a hardware error, which comes before every other trap of it (rules R410, R450, R457). -/
def State.executeWord (exec : Instr → State → Result) (s : State) : Result :=
  match decodeWord s.ir with
  | .ok i =>
    match s.sourceError s.ir with
    | some e => .next (s.takeHwError e)
    | none => exec i s.otherMasters
  | .error _ => s.raise .illegalInstruction

/-- The fetch, or instruction_access_exception (rules R100, R101, R485). -/
def State.fetchStep (exec : Instr → State → Result) (s : State) : Result :=
  if s.refuses s.fetchRequest then s.requestFetch.raise .instructionAccessException
  else s.fetched.executeWord exec

/-- Of an error detected at this boundary and those of the registers that the fetched instruction reads, the worst (rules R410,
R454); what the decoder refuses reads none. -/
def State.errorAtPc (e : HwError) (s : State) : HwError :=
  match decodeWord s.ir with
  | .ok _ => (worstError (e :: s.sourceErrors s.ir)).getD e
  | .error _ => e

/-- An error detected at this boundary accompanies the instruction at PC, whose fetch is made and which does not execute (rule
R457, log 22). DESIGN CHOICE (log 22), unsafe: a load whose data error is such an event (type 0x63, late, rule R452) completed in
the step before, so that r[rd] holds the loaded word when the trap is taken, though rule R173 says that on any trap r[rd] keeps
its old value. -/
def State.eventStep (e : HwError) (s : State) : State :=
  if s.refuses s.fetchRequest then s.requestFetch.takeHwError e
  else s.readInstr.takeHwError (s.readInstr.errorAtPc e)

/-- What stands before the fetch, in the order of rules R410, R442 and R485. -/
def State.boundaryStep (exec : Instr → State → Result) (s : State) : Result :=
  if s.annul then .next s.annulStep
  else
    match s.hwError with
    | some e => .next (s.eventStep e)
    | none =>
      if s.interruptPending then .next (s.takeTrap (.interruptLevel s.inputs.irl)) else s.fetchStep exec

/-- A step that is not halted (rules R431, R432, R485, R500, R501). -/
def State.liveStep (exec : Instr → State → Result) (s : State) : Result :=
  if s.inputs.resetFault then .next s.enterErrorMode
  else if s.inputs.reset then .next s.enterReset
  else
    match s.mode with
    | .reset => .next s.leaveReset
    | .error => .next s
    | .execute => if Size.word.aligned s.pc then s.boundaryStep exec else .fault .pcNotAligned

/-- One step: HALT freezes everything (rule R470). -/
def State.cycle (exec : Instr → State → Result) (s : State) : Result :=
  if s.inputs.halt then .next s else s.quiet.liveStep exec

end Sys2Proof.Machine
end

