-- ==== Sys2Proof/Machine/Arith.lean ====
section
/-! DEFINITION. Addition, subtraction, tagged arithmetic and the multiply step (rules R256 to R270). -/

namespace Sys2Proof.Machine

/-- The end of an arithmetic cc instruction: the result and icc are written. -/
def State.arithCc (s : State) (rd : RegNum) (res : Word) (f : Icc) : Result := ((s.writeReg rd res).setIcc f).complete

/-- The end of a trapping tagged instruction: V would be 1 raises tag_overflow and writes nothing (rule R266). -/
def State.taggedTv (s : State) (rd : RegNum) (res : Word) (f : Icc) : Result :=
  if f.v then s.raise .tagOverflow else s.arithCc rd res f

/-- ADD (rule R256). -/
def execAdd (rd rs1 : RegNum) (op2 : Operand2) (s : State) : Result :=
  (s.writeReg rd (s.readReg rs1 + s.op2val op2)).complete

/-- ADDcc (rule R257). -/
def execAddcc (rd rs1 : RegNum) (op2 : Operand2) (s : State) : Result :=
  s.arithCc rd (s.readReg rs1 + s.op2val op2) (iccAdd (s.readReg rs1) (s.op2val op2) false)

/-- ADDX (rule R258). -/
def execAddx (rd rs1 : RegNum) (op2 : Operand2) (s : State) : Result :=
  (s.writeReg rd (s.readReg rs1 + s.op2val op2 + carryIn s.psr.icc.c)).complete

/-- ADDXcc (rule R259). -/
def execAddxcc (rd rs1 : RegNum) (op2 : Operand2) (s : State) : Result :=
  s.arithCc rd (s.readReg rs1 + s.op2val op2 + carryIn s.psr.icc.c)
    (iccAdd (s.readReg rs1) (s.op2val op2) s.psr.icc.c)

/-- SUB (rule R260). -/
def execSub (rd rs1 : RegNum) (op2 : Operand2) (s : State) : Result :=
  (s.writeReg rd (s.readReg rs1 - s.op2val op2)).complete

/-- SUBcc (rule R261). -/
def execSubcc (rd rs1 : RegNum) (op2 : Operand2) (s : State) : Result :=
  s.arithCc rd (s.readReg rs1 - s.op2val op2) (iccSub (s.readReg rs1) (s.op2val op2) false)

/-- SUBX (rule R262); that the carry is subtracted is PRESUMED (log 29). -/
def execSubx (rd rs1 : RegNum) (op2 : Operand2) (s : State) : Result :=
  (s.writeReg rd (s.readReg rs1 - s.op2val op2 - carryIn s.psr.icc.c)).complete

/-- SUBXcc (rule R263); that the carry is subtracted is PRESUMED (log 29). -/
def execSubxcc (rd rs1 : RegNum) (op2 : Operand2) (s : State) : Result :=
  s.arithCc rd (s.readReg rs1 - s.op2val op2 - carryIn s.psr.icc.c)
    (iccSub (s.readReg rs1) (s.op2val op2) s.psr.icc.c)

/-- TADDcc (rule R264). -/
def execTaddcc (rd rs1 : RegNum) (op2 : Operand2) (s : State) : Result :=
  s.arithCc rd (s.readReg rs1 + s.op2val op2) (iccTaggedAdd (s.readReg rs1) (s.op2val op2))

/-- TSUBcc (rule R265). -/
def execTsubcc (rd rs1 : RegNum) (op2 : Operand2) (s : State) : Result :=
  s.arithCc rd (s.readReg rs1 - s.op2val op2) (iccTaggedSub (s.readReg rs1) (s.op2val op2))

/-- TADDccTV (rule R266). -/
def execTaddcctv (rd rs1 : RegNum) (op2 : Operand2) (s : State) : Result :=
  s.taggedTv rd (s.readReg rs1 + s.op2val op2) (iccTaggedAdd (s.readReg rs1) (s.op2val op2))

/-- TSUBccTV (rule R267). -/
def execTsubcctv (rd rs1 : RegNum) (op2 : Operand2) (s : State) : Result :=
  s.taggedTv rd (s.readReg rs1 - s.op2val op2) (iccTaggedSub (s.readReg rs1) (s.op2val op2))

/-- MULScc (rule R270); the operation is PRESUMED (log 29). -/
def execMulscc (rd rs1 : RegNum) (op2 : Operand2) (s : State) : Result :=
  (State.wroteControl
    { (s.writeReg rd (mulStepOp1 s.psr.icc (s.readReg rs1) + mulStepOp2 s.y (s.op2val op2))).setIcc
        (iccAdd (mulStepOp1 s.psr.icc (s.readReg rs1)) (mulStepOp2 s.y (s.op2val op2)) false) with
      y := mulStepY s.y (s.readReg rs1) } .y).complete

end Sys2Proof.Machine
end

