-- ==== Sys2Proof/Machine/Units.lean ====
section
/-! DEFINITION. The FPU and the coprocessor as the IU sees them (44_fp_cp.md): the enable and exception checks, launches, and
the transfers of loads and stores. What an FPop or CPop computes is out of the spec's scope (rule R8) and a free value
(log 25); the units finish their queue in order (rule R394, log 26). -/

namespace Sys2Proof.Machine

/-- The unit of a kind. -/
def State.unit (s : State) : UnitKind → Coproc
  | .fpu => s.fpu
  | .cp => s.cp

/-- Replace the unit of a kind. -/
def State.setUnit (s : State) (k : UnitKind) (u : Coproc) : State :=
  { s with fpu := if k = .fpu then u else s.fpu, cp := if k = .cp then u else s.cp }

/-- The unit is enabled and present (rules R44, R45, R361, R362). -/
def State.unitEnabled (s : State) : UnitKind → Bool
  | .fpu => s.psr.ef && s.params.fpPresent
  | .cp => s.psr.ec && s.params.cpPresent

/-- fp_disabled or cp_disabled (rules R361, R362). -/
def UnitKind.disabledTrap : UnitKind → Trap
  | .fpu => .fpDisabled
  | .cp => .cpDisabled

/-- fp_exception or cp_exception (rule R363). -/
def UnitKind.exceptionTrap : UnitKind → Trap
  | .fpu => .fpException
  | .cp => .cpException

/-- FINS1 or FINS2, CINS1 or CINS2: which of the unit's decode buffers holds the instruction (rule R360). -/
def UnitKind.startSignal (second : Bool) : UnitKind → Signal
  | .fpu => if second then .fins2 else .fins1
  | .cp => if second then .cins2 else .cins1

/-- Read an f or c register. -/
def Coproc.readReg (u : Coproc) (n : RegNum) : Word := u.regs[n.toNat]'n.isLt

/-- Write an f or c register. -/
def Coproc.writeReg (u : Coproc) (n : RegNum) (v : Word) : Coproc := { u with regs := u.regs.set n.toNat v n.isLt }

/-! ### What finishing an instruction of the queue does -/

/-- The opf field of a queued word is one of the table's (rules R150, R151, R155). -/
def fpopAssigned (w : Word) : Bool :=
  if w.getLsbD 19 then assignedOpf2.contains (fieldOpf w) else assignedOpf1.contains (fieldOpf w)

/-- The number of words of an FPop1's result: a single or an integer one, a double two, an extended four (rule R375). DESIGN CHOICE
(log 26), unsafe: an opf of no table, of which the spec does not say what it names (rule R155, N9), counts as a single result. -/
def fpopResultWords (w : Word) : Nat :=
  match (fieldOpf w).toNat with
  | 0x02A => 2
  | 0x042 => 2
  | 0x046 => 2
  | 0x04A => 2
  | 0x04E => 2
  | 0x0C8 => 2
  | 0x0C9 => 2
  | 0x0CB => 2
  | 0x02B => 4
  | 0x043 => 4
  | 0x047 => 4
  | 0x04B => 4
  | 0x04F => 4
  | 0x0CC => 4
  | 0x0CD => 4
  | 0x0CE => 4
  | _ => 1

/-- The number of words of an FPop's source operands: the two low bits of opf name their format (rules R150, R151, R375). -/
def fpopSourceWords (w : Word) : Nat :=
  match (w.extractLsb' 5 2).toNat with
  | 2 => 2
  | 3 => 4
  | _ => 1

/-- An FPop has two source operands: the four operations and the compares; the others have rs2 alone (rules R150, R151). -/
def fpopTwoSources (w : Word) : Bool := w.getLsbD 19 || w.extractLsb' 9 5 == 0b00100#5

/-- The mask of so many consecutive registers from one on, which the hardware forces to be even for a pair or a quadruple (rules
R186, R375). -/
def regGroup (n : RegNum) (words : Nat) : Word :=
  (BitVec.ofNat 32 (2 ^ words - 1)).rotateLeft (if words = 1 then n else evenReg n).toNat

/-- The registers of its unit that a launched word writes, as a mask: an FPop1 its destination, a compare none (rules R364, R365);
a CPop what the implementation says (U2). DESIGN CHOICE (log 26), unsafe: an FPop2 with an opf of no table counts as a compare. -/
def UnitKind.writes : UnitKind → Word → Word
  | .fpu, w => if w.getLsbD 19 then 0#32 else regGroup (fieldRd w) (fpopResultWords w)
  | .cp, w => Config.cpopWrites w

/-- The registers of its unit that a launched word reads, as a mask. -/
def UnitKind.reads : UnitKind → Word → Word
  | .fpu, w =>
    regGroup (fieldRs2 w) (fpopSourceWords w)
      ||| (if fpopTwoSources w then regGroup (fieldRs1 w) (fpopSourceWords w) else 0#32)
  | .cp, w => Config.cpopReads w

/-- A launched word is a compare: it sets the condition codes (rules R365, R393). -/
def UnitKind.setsCc : UnitKind → Word → Bool
  | .fpu, w => w.getLsbD 19
  | .cp, w => Config.cpopSetsCc w

/-- The place of the condition codes in the status register (rules R360, R368, R378; log 35). -/
def UnitKind.ccLow : UnitKind → Nat
  | .fpu => Config.fccLow.val
  | .cp => Config.cccLow.val

/-- The condition codes of a status word. -/
def UnitKind.ccField (kind : UnitKind) (status : Word) : BitVec 2 := status.extractLsb' kind.ccLow 2

/-- A status word with the condition codes of another. -/
def UnitKind.keepCc (kind : UnitKind) (status from' : Word) : Word :=
  (status &&& ~~~(3#32 <<< kind.ccLow)) ||| (from' &&& (3#32 <<< kind.ccLow))

/-- FCC[1:0] or CCC[1:0]: the condition codes of the unit's status register (rule R360). -/
def State.unitCc (s : State) (kind : UnitKind) : BitVec 2 := kind.ccField (s.unit kind).status

/-- A unit finishes an instruction of its queue, from the free index k on: the registers it writes and the status word take free
values (rule R8, N9, log 25); only a compare changes the condition codes (rules R365, R393). -/
def Coproc.finish (kind : UnitKind) (u : Coproc) (w : Word) (k : Nat) : Coproc :=
  { u with
    regs := Vector.ofFn fun i =>
      if (kind.writes w).getLsbD i.val then Config.freeWord (k + 1 + i.val) else u.regs[i.val]'i.isLt
    status := if kind.setsCc w then Config.freeWord k else kind.keepCc (Config.freeWord k) u.status }

/-- A unit raises its exception for an instruction. The spec does not say what the destination registers, the condition codes and
the rest of the status word then hold: they take free values (DESIGN CHOICE for rule R363 and U2, log 26). -/
def Coproc.except (kind : UnitKind) (u : Coproc) (w : Word) (k : Nat) : Coproc :=
  { u.finish kind w k with status := Config.freeWord k, excPending := true }

/-- The unit cannot execute this word and raises its exception for it: an FPop with an unassigned opf (rules R155, R363).
For the coprocessor that is the implementation's choice (U2). -/
def mustExcept (kind : UnitKind) (w : Word) : Bool :=
  match kind with
  | .fpu => !fpopAssigned w
  | .cp => false

/-- The most free values one instruction of the queue uses. -/
def freeStride : Nat := 64

/-- The unit works on its queue, front first (rule R394). It may stop early unless an instruction is left for which it must be
waited; the front instruction may raise an exception, which stays pending with that instruction at the front (rule R363), or be
finished and leave. -/
def Coproc.drain (kind : UnitKind) (needs : Word → Bool) : List (Word × Word) → Coproc → Nat → Coproc × Nat
  | [], u, k => ({ u with queue := [] }, k)
  | (a, w) :: rest, u, k =>
    if !needs w && !rest.any (fun e => needs e.2) && !mustExcept kind w && Config.freeBit k then
      ({ u with queue := (a, w) :: rest }, k + 1)
    else if mustExcept kind w || Config.freeBit (k + 1) then
      ({ u.except kind w (k + 2) with queue := (a, w) :: rest }, k + freeStride)
    else Coproc.drain kind needs rest (u.finish kind w (k + 2)) (k + freeStride)

/-- The unit and the free index after some work. -/
def State.afterWork (s : State) (kind : UnitKind) (r : Coproc × Nat) : State := { s.setUnit kind r.1 with freeIdx := r.2 }

/-- What the unit does by itself before an instruction of its kind is recognised: any number of queued instructions, and at least
those the instruction waits for, which are the compares, for which FCCV or CCCV freezes the IU (rules R393, R521), and those it
needs (rules R394, R521). With an exception pending or in exception mode the unit finishes nothing (rule R363). -/
def State.syncUnit (s : State) (kind : UnitKind) (needs : Word → Bool) : State :=
  if (s.unit kind).excPending || (s.unit kind).excMode then s
  else
    s.afterWork kind
      (Coproc.drain kind (fun w => kind.setsCc w || needs w) (s.unit kind).queue (s.unit kind) s.freeIdx)

/-- The checks of an instruction of a unit, in the order of rules R304, R306, R364, R396: disabled, then (for a memory form)
alignment, then a pending exception. -/
def State.unitChecks (s : State) (kind : UnitKind) (needs : Word → Bool) (aligned : Bool) (go : State → Result) : Result :=
  if s.unitEnabled kind then
    if aligned then
      if ((s.syncUnit kind needs).unit kind).excPending then (s.syncUnit kind needs).raise kind.exceptionTrap
      else go (s.syncUnit kind needs)
    else s.raise .memAddressNotAligned
  else s.raise kind.disabledTrap

/-! ### What an instruction needs of the queue (rules R394, R521; log 26) -/

/-- A launch waits for an operand dependency: one of the two writes a register that the other reads or writes. -/
def UnitKind.depends (kind : UnitKind) (new queued : Word) : Bool :=
  kind.writes queued &&& (kind.reads new ||| kind.writes new) != 0#32 || kind.reads queued &&& kind.writes new != 0#32

/-- A load or store waits for the instructions that write a register it touches. -/
def UnitKind.computes (kind : UnitKind) (regs : Word) (queued : Word) : Bool := kind.writes queued &&& regs != 0#32

/-- The mask of one register. -/
def regMask (n : RegNum) : Word := regGroup n 1

/-- The mask of an even-odd pair. -/
def pairMask (n : RegNum) : Word := regGroup n 2

/-- A load or store of the status register waits for every queued instruction (rules R368, R371). -/
def needsAll (_queued : Word) : Bool := true

/-- Nothing but compares is waited for: a branch, and a queue store. -/
def needsNone (_queued : Word) : Bool := false

/-! ### Operate instructions -/

/-- A unit receives an instruction: it joins the queue with its address (rules R363, R394). In exception mode the unit
executes only queue stores (rule R363), so it drops the instruction (log 27). -/
def Coproc.launch (u : Coproc) (addr w : Word) : Coproc :=
  if u.excMode then u else { u with queue := u.queue ++ [(addr, w)] }

/-- FPop or CPop: the checks, then the launch; no IU register changes (rules R364, R365, R373, R374). Which of the two decode
buffers holds the word is a free choice (rule R360, log 26). -/
def State.operate (s : State) (kind : UnitKind) (w : Word) : Result :=
  s.unitChecks kind (kind.depends w) true fun t =>
    (((t.setUnit kind ((t.unit kind).launch t.pc w)).pulse (kind.startSignal (Config.freeBit t.freeIdx))).useFree 1).complete

/-! ### Loads (rules R366 to R368, R376 to R378, R396, R397) -/

/-- Give the unit something, unless it is in exception mode, where it executes only queue stores (rule R363, log 27). -/
def Coproc.accept (u : Coproc) (f : Coproc → Coproc) : Coproc := if u.excMode then u else f u

/-- Load one register of a unit. DESIGN CHOICE (log 32), unsafe: FINS and CINS, which rules R364 and R373 name for launches alone,
are not pulsed by a load or a store of a unit, nor by a branch on its condition codes. -/
def State.unitLoad (s : State) (kind : UnitKind) (rd : RegNum) (ea : Word) : Result :=
  s.unitChecks kind (kind.computes (regMask rd)) (Size.word.aligned ea) fun t =>
    t.readAccess t.dataAsi ea .word false false id fun t1 =>
      (t1.setUnit kind ((t1.unit kind).accept fun u => u.writeReg rd (t.readWord t.dataAsi ea))).complete

/-- Load an even-odd pair of a unit. MEXC on the second word leaves the even register a free value (U6, log 19). -/
def State.unitLoadDouble (s : State) (kind : UnitKind) (rd : RegNum) (ea : Word) : Result :=
  s.unitChecks kind (kind.computes (pairMask rd)) (Size.dbl.aligned ea) fun t =>
    t.readAccess t.dataAsi ea .dbl false true id fun t1 =>
      t1.readAccess t.dataAsi (ea + 4#32) .dbl false false
        (fun f =>
          State.useFree
            (f.setUnit kind ((f.unit kind).accept fun u => u.writeReg (evenReg rd) (Config.freeWord f.freeIdx))) 1)
        fun t2 =>
          (t2.setUnit kind ((t2.unit kind).accept fun u =>
            (u.writeReg (evenReg rd) (t.readWord t.dataAsi ea)).writeReg (oddReg rd)
              (t.readWord t.dataAsi (ea + 4#32)))).complete

/-- Load the status register of a unit, the condition codes in it. -/
def State.unitLoadStatus (s : State) (kind : UnitKind) (ea : Word) : Result :=
  s.unitChecks kind needsAll (Size.word.aligned ea) fun t =>
    t.readAccess t.dataAsi ea .word false false id fun t1 =>
      (t1.setUnit kind ((t1.unit kind).accept fun u => { u with status := t.readWord t.dataAsi ea })).complete

/-! ### Stores (rules R369 to R372, R379, R390 to R392, R396, R397) -/

/-- The word a unit drives: its own, or a free value in exception mode (log 27). -/
def State.driven (s : State) (kind : UnitKind) (k : Nat) (v : Word) : Word :=
  if (s.unit kind).excMode then Config.freeWord (s.freeIdx + k) else v

/-- The free values used by driving k words. -/
def State.useDriven (s : State) (kind : UnitKind) (k : Nat) : State :=
  if (s.unit kind).excMode then s.useFree k else s

/-- Store one word that the unit drives. LOCK is off, as in every single store (DESIGN CHOICE, log 32). -/
def State.unitStoreWord (s : State) (kind : UnitKind) (needs : Word → Bool) (ea : Word) (value : Coproc → Word) : Result :=
  s.unitChecks kind needs (Size.word.aligned ea) fun t =>
    t.writeAccess t.dataAsi ea .word false false (bytesOfData (t.driven kind 0 (value (t.unit kind)))) id fun t1 =>
      (t1.useDriven kind 1).complete

/-- Store an even-odd pair of a unit. -/
def State.unitStoreDouble (s : State) (kind : UnitKind) (rd : RegNum) (ea : Word) : Result :=
  s.unitChecks kind (kind.computes (pairMask rd)) (Size.dbl.aligned ea) fun t =>
    t.storeTwo t.dataAsi ea (t.driven kind 0 ((t.unit kind).readReg (evenReg rd)))
      (t.driven kind 1 ((t.unit kind).readReg (oddReg rd))) fun t1 => (t1.useDriven kind 2).complete

/-- The front entry of a unit's queue, address and word; of an empty queue free values (log 28). -/
def State.queueFront (s : State) (kind : UnitKind) : Word × Word :=
  match (s.unit kind).queue with
  | [] => (Config.freeWord s.freeIdx, Config.freeWord (s.freeIdx + 1))
  | e :: _ => e

/-- The front entry leaves the queue; exception mode ends when the queue is empty (rule R363). -/
def Coproc.popQueue (u : Coproc) : Coproc :=
  { u with queue := u.queue.tail, excMode := u.excMode && !u.queue.tail.isEmpty }

/-- Store the front entry of a unit's queue, the address at the lower word (rules R372, R392, log 28). -/
def State.unitStoreQueue (s : State) (kind : UnitKind) (ea : Word) : Result :=
  s.supervisorOnly <|
    s.unitChecks kind needsNone (Size.dbl.aligned ea) fun t =>
      t.storeTwo t.dataAsi ea (t.queueFront kind).1 (t.queueFront kind).2 fun t1 =>
        ((t1.setUnit kind (t1.unit kind).popQueue).useFree (if (t.unit kind).queue.isEmpty then 2 else 0)).complete

/-! ### Branches on a unit's condition codes (rules R304, R306) -/

/-- The parity of the FPU's control signals is wrong and checked (rules R453, R455). -/
def State.fiparFails (s : State) : Bool := s.params.parityInCheck && s.inputs.fiparError

/-- FBfcc (rule R304). A FIPAR error is reported as fp_disabled (rule R453). -/
def State.branchFcc (s : State) (cond : BitVec 4) (a : Bool) (disp22 : BitVec 22) : Result :=
  if s.fiparFails then s.raise .fpDisabled
  else
    s.unitChecks .fpu needsNone true fun t => .next (t.branch cond (fccTest cond (t.unitCc .fpu)) a disp22)

/-- CBccc (rule R306). -/
def State.branchCcc (s : State) (cond : BitVec 4) (a : Bool) (disp22 : BitVec 22) : Result :=
  s.unitChecks .cp needsNone true fun t => .next (t.branch cond (cccTest cond (t.unitCc .cp)) a disp22)

end Sys2Proof.Machine
end

