-- ==== Sys2Proof/Machine/Branch.lean ====
section
/-! DEFINITION. The branches Bicc, FBfcc and CBccc, one meaning per condition (rules R300 to R307). -/

namespace Sys2Proof.Machine

/-- Bicc (rule R300). -/
def State.branchIcc (s : State) (cond : BitVec 4) (a : Bool) (disp22 : BitVec 22) : Result :=
  .next (s.branch cond (iccTest cond s.psr.icc) a disp22)

/-- BN (rule R300). -/
def execBn (a : Bool) (disp22 : BitVec 22) (s : State) : Result := s.branchIcc 0#4 a disp22

/-- BE (rule R300). -/
def execBe (a : Bool) (disp22 : BitVec 22) (s : State) : Result := s.branchIcc 1#4 a disp22

/-- BLE (rule R300). -/
def execBle (a : Bool) (disp22 : BitVec 22) (s : State) : Result := s.branchIcc 2#4 a disp22

/-- BL (rule R300). -/
def execBl (a : Bool) (disp22 : BitVec 22) (s : State) : Result := s.branchIcc 3#4 a disp22

/-- BLEU (rule R300). -/
def execBleu (a : Bool) (disp22 : BitVec 22) (s : State) : Result := s.branchIcc 4#4 a disp22

/-- BCS (rule R300). -/
def execBcs (a : Bool) (disp22 : BitVec 22) (s : State) : Result := s.branchIcc 5#4 a disp22

/-- BNEG (rule R300). -/
def execBneg (a : Bool) (disp22 : BitVec 22) (s : State) : Result := s.branchIcc 6#4 a disp22

/-- BVS (rule R300). -/
def execBvs (a : Bool) (disp22 : BitVec 22) (s : State) : Result := s.branchIcc 7#4 a disp22

/-- BA (rule R300). -/
def execBa (a : Bool) (disp22 : BitVec 22) (s : State) : Result := s.branchIcc 8#4 a disp22

/-- BNE (rule R300). -/
def execBne (a : Bool) (disp22 : BitVec 22) (s : State) : Result := s.branchIcc 9#4 a disp22

/-- BG (rule R300). -/
def execBg (a : Bool) (disp22 : BitVec 22) (s : State) : Result := s.branchIcc 10#4 a disp22

/-- BGE (rule R300). -/
def execBge (a : Bool) (disp22 : BitVec 22) (s : State) : Result := s.branchIcc 11#4 a disp22

/-- BGU (rule R300). -/
def execBgu (a : Bool) (disp22 : BitVec 22) (s : State) : Result := s.branchIcc 12#4 a disp22

/-- BCC (rule R300). -/
def execBcc (a : Bool) (disp22 : BitVec 22) (s : State) : Result := s.branchIcc 13#4 a disp22

/-- BPOS (rule R300). -/
def execBpos (a : Bool) (disp22 : BitVec 22) (s : State) : Result := s.branchIcc 14#4 a disp22

/-- BVC (rule R300). -/
def execBvc (a : Bool) (disp22 : BitVec 22) (s : State) : Result := s.branchIcc 15#4 a disp22

/-- FBN (rule R304). -/
def execFbn (a : Bool) (disp22 : BitVec 22) (s : State) : Result := s.branchFcc 0#4 a disp22

/-- FBNE (rule R304). -/
def execFbne (a : Bool) (disp22 : BitVec 22) (s : State) : Result := s.branchFcc 1#4 a disp22

/-- FBLG (rule R304). -/
def execFblg (a : Bool) (disp22 : BitVec 22) (s : State) : Result := s.branchFcc 2#4 a disp22

/-- FBUL (rule R304). -/
def execFbul (a : Bool) (disp22 : BitVec 22) (s : State) : Result := s.branchFcc 3#4 a disp22

/-- FBL (rule R304). -/
def execFbl (a : Bool) (disp22 : BitVec 22) (s : State) : Result := s.branchFcc 4#4 a disp22

/-- FBUG (rule R304). -/
def execFbug (a : Bool) (disp22 : BitVec 22) (s : State) : Result := s.branchFcc 5#4 a disp22

/-- FBG (rule R304). -/
def execFbg (a : Bool) (disp22 : BitVec 22) (s : State) : Result := s.branchFcc 6#4 a disp22

/-- FBU (rule R304). -/
def execFbu (a : Bool) (disp22 : BitVec 22) (s : State) : Result := s.branchFcc 7#4 a disp22

/-- FBA (rule R304). -/
def execFba (a : Bool) (disp22 : BitVec 22) (s : State) : Result := s.branchFcc 8#4 a disp22

/-- FBE (rule R304). -/
def execFbe (a : Bool) (disp22 : BitVec 22) (s : State) : Result := s.branchFcc 9#4 a disp22

/-- FBUE (rule R304). -/
def execFbue (a : Bool) (disp22 : BitVec 22) (s : State) : Result := s.branchFcc 10#4 a disp22

/-- FBGE (rule R304). -/
def execFbge (a : Bool) (disp22 : BitVec 22) (s : State) : Result := s.branchFcc 11#4 a disp22

/-- FBUGE (rule R304). -/
def execFbuge (a : Bool) (disp22 : BitVec 22) (s : State) : Result := s.branchFcc 12#4 a disp22

/-- FBLE (rule R304). -/
def execFble (a : Bool) (disp22 : BitVec 22) (s : State) : Result := s.branchFcc 13#4 a disp22

/-- FBULE (rule R304). -/
def execFbule (a : Bool) (disp22 : BitVec 22) (s : State) : Result := s.branchFcc 14#4 a disp22

/-- FBO (rule R304). -/
def execFbo (a : Bool) (disp22 : BitVec 22) (s : State) : Result := s.branchFcc 15#4 a disp22

/-- CBN (rule R306). -/
def execCbn (a : Bool) (disp22 : BitVec 22) (s : State) : Result := s.branchCcc 0#4 a disp22

/-- CB123 (rule R306). -/
def execCb123 (a : Bool) (disp22 : BitVec 22) (s : State) : Result := s.branchCcc 1#4 a disp22

/-- CB12 (rule R306). -/
def execCb12 (a : Bool) (disp22 : BitVec 22) (s : State) : Result := s.branchCcc 2#4 a disp22

/-- CB13 (rule R306). -/
def execCb13 (a : Bool) (disp22 : BitVec 22) (s : State) : Result := s.branchCcc 3#4 a disp22

/-- CB1 (rule R306). -/
def execCb1 (a : Bool) (disp22 : BitVec 22) (s : State) : Result := s.branchCcc 4#4 a disp22

/-- CB23 (rule R306). -/
def execCb23 (a : Bool) (disp22 : BitVec 22) (s : State) : Result := s.branchCcc 5#4 a disp22

/-- CB2 (rule R306). -/
def execCb2 (a : Bool) (disp22 : BitVec 22) (s : State) : Result := s.branchCcc 6#4 a disp22

/-- CB3 (rule R306). -/
def execCb3 (a : Bool) (disp22 : BitVec 22) (s : State) : Result := s.branchCcc 7#4 a disp22

/-- CBA (rule R306). -/
def execCba (a : Bool) (disp22 : BitVec 22) (s : State) : Result := s.branchCcc 8#4 a disp22

/-- CB0 (rule R306). -/
def execCb0 (a : Bool) (disp22 : BitVec 22) (s : State) : Result := s.branchCcc 9#4 a disp22

/-- CB03 (rule R306). -/
def execCb03 (a : Bool) (disp22 : BitVec 22) (s : State) : Result := s.branchCcc 10#4 a disp22

/-- CB02 (rule R306). -/
def execCb02 (a : Bool) (disp22 : BitVec 22) (s : State) : Result := s.branchCcc 11#4 a disp22

/-- CB023 (rule R306). -/
def execCb023 (a : Bool) (disp22 : BitVec 22) (s : State) : Result := s.branchCcc 12#4 a disp22

/-- CB01 (rule R306). -/
def execCb01 (a : Bool) (disp22 : BitVec 22) (s : State) : Result := s.branchCcc 13#4 a disp22

/-- CB013 (rule R306). -/
def execCb013 (a : Bool) (disp22 : BitVec 22) (s : State) : Result := s.branchCcc 14#4 a disp22

/-- CB012 (rule R306). -/
def execCb012 (a : Bool) (disp22 : BitVec 22) (s : State) : Result := s.branchCcc 15#4 a disp22

end Sys2Proof.Machine
end

