-- ==== Sys2Proof/Machine/CpOps.lean ====
section
/-! DEFINITION. The coprocessor operate instructions (rules R373, R374). -/

namespace Sys2Proof.Machine

/-- CPop1 (rule R373). -/
def execCpop1 (rd rs1 : RegNum) (opc : BitVec 9) (rs2 : RegNum) (s : State) : Result :=
  s.operate .cp (fpopWord 54#6 rd rs1 opc rs2)

/-- CPop2 (rule R374). -/
def execCpop2 (rd rs1 : RegNum) (opc : BitVec 9) (rs2 : RegNum) (s : State) : Result :=
  s.operate .cp (fpopWord 55#6 rd rs1 opc rs2)

end Sys2Proof.Machine
end

