-- ==== Sys2Proof/Machine/FpOps.lean ====
section
/-! DEFINITION. The floating-point operate instructions: their words are launched into the FPU (rules R364, R365). -/

namespace Sys2Proof.Machine

/-- FPop1 (rule R364) with an opf that no other row names. -/
def execFpop1 (rd rs1 : RegNum) (opf : BitVec 9) (rs2 : RegNum) (s : State) : Result :=
  s.operate .fpu (fpopWord 52#6 rd rs1 opf rs2)

/-- FMOVs (rule R364), opf = 0x001. -/
def execFmovs (rd rs1 rs2 : RegNum) (s : State) : Result := s.operate .fpu (fpopWord 52#6 rd rs1 1#9 rs2)

/-- FNEGs (rule R364), opf = 0x005. -/
def execFnegs (rd rs1 rs2 : RegNum) (s : State) : Result := s.operate .fpu (fpopWord 52#6 rd rs1 5#9 rs2)

/-- FABSs (rule R364), opf = 0x009. -/
def execFabss (rd rs1 rs2 : RegNum) (s : State) : Result := s.operate .fpu (fpopWord 52#6 rd rs1 9#9 rs2)

/-- FSQRTs (rule R364), opf = 0x029. -/
def execFsqrts (rd rs1 rs2 : RegNum) (s : State) : Result := s.operate .fpu (fpopWord 52#6 rd rs1 41#9 rs2)

/-- FSQRTd (rule R364), opf = 0x02A. -/
def execFsqrtd (rd rs1 rs2 : RegNum) (s : State) : Result := s.operate .fpu (fpopWord 52#6 rd rs1 42#9 rs2)

/-- FSQRTx (rule R364), opf = 0x02B. -/
def execFsqrtx (rd rs1 rs2 : RegNum) (s : State) : Result := s.operate .fpu (fpopWord 52#6 rd rs1 43#9 rs2)

/-- FADDs (rule R364), opf = 0x041. -/
def execFadds (rd rs1 rs2 : RegNum) (s : State) : Result := s.operate .fpu (fpopWord 52#6 rd rs1 65#9 rs2)

/-- FADDd (rule R364), opf = 0x042. -/
def execFaddd (rd rs1 rs2 : RegNum) (s : State) : Result := s.operate .fpu (fpopWord 52#6 rd rs1 66#9 rs2)

/-- FADDx (rule R364), opf = 0x043. -/
def execFaddx (rd rs1 rs2 : RegNum) (s : State) : Result := s.operate .fpu (fpopWord 52#6 rd rs1 67#9 rs2)

/-- FSUBs (rule R364), opf = 0x045. -/
def execFsubs (rd rs1 rs2 : RegNum) (s : State) : Result := s.operate .fpu (fpopWord 52#6 rd rs1 69#9 rs2)

/-- FSUBd (rule R364), opf = 0x046. -/
def execFsubd (rd rs1 rs2 : RegNum) (s : State) : Result := s.operate .fpu (fpopWord 52#6 rd rs1 70#9 rs2)

/-- FSUBx (rule R364), opf = 0x047. -/
def execFsubx (rd rs1 rs2 : RegNum) (s : State) : Result := s.operate .fpu (fpopWord 52#6 rd rs1 71#9 rs2)

/-- FMULs (rule R364), opf = 0x049. -/
def execFmuls (rd rs1 rs2 : RegNum) (s : State) : Result := s.operate .fpu (fpopWord 52#6 rd rs1 73#9 rs2)

/-- FMULd (rule R364), opf = 0x04A. -/
def execFmuld (rd rs1 rs2 : RegNum) (s : State) : Result := s.operate .fpu (fpopWord 52#6 rd rs1 74#9 rs2)

/-- FMULx (rule R364), opf = 0x04B. -/
def execFmulx (rd rs1 rs2 : RegNum) (s : State) : Result := s.operate .fpu (fpopWord 52#6 rd rs1 75#9 rs2)

/-- FDIVs (rule R364), opf = 0x04D. -/
def execFdivs (rd rs1 rs2 : RegNum) (s : State) : Result := s.operate .fpu (fpopWord 52#6 rd rs1 77#9 rs2)

/-- FDIVd (rule R364), opf = 0x04E. -/
def execFdivd (rd rs1 rs2 : RegNum) (s : State) : Result := s.operate .fpu (fpopWord 52#6 rd rs1 78#9 rs2)

/-- FDIVx (rule R364), opf = 0x04F. -/
def execFdivx (rd rs1 rs2 : RegNum) (s : State) : Result := s.operate .fpu (fpopWord 52#6 rd rs1 79#9 rs2)

/-- FiTOs (rule R364), opf = 0x0C4. -/
def execFitos (rd rs1 rs2 : RegNum) (s : State) : Result := s.operate .fpu (fpopWord 52#6 rd rs1 196#9 rs2)

/-- FdTOs (rule R364), opf = 0x0C6. -/
def execFdtos (rd rs1 rs2 : RegNum) (s : State) : Result := s.operate .fpu (fpopWord 52#6 rd rs1 198#9 rs2)

/-- FxTOs (rule R364), opf = 0x0C7. -/
def execFxtos (rd rs1 rs2 : RegNum) (s : State) : Result := s.operate .fpu (fpopWord 52#6 rd rs1 199#9 rs2)

/-- FiTOd (rule R364), opf = 0x0C8. -/
def execFitod (rd rs1 rs2 : RegNum) (s : State) : Result := s.operate .fpu (fpopWord 52#6 rd rs1 200#9 rs2)

/-- FsTOd (rule R364), opf = 0x0C9. -/
def execFstod (rd rs1 rs2 : RegNum) (s : State) : Result := s.operate .fpu (fpopWord 52#6 rd rs1 201#9 rs2)

/-- FxTOd (rule R364), opf = 0x0CB. -/
def execFxtod (rd rs1 rs2 : RegNum) (s : State) : Result := s.operate .fpu (fpopWord 52#6 rd rs1 203#9 rs2)

/-- FiTOx (rule R364), opf = 0x0CC. -/
def execFitox (rd rs1 rs2 : RegNum) (s : State) : Result := s.operate .fpu (fpopWord 52#6 rd rs1 204#9 rs2)

/-- FsTOx (rule R364), opf = 0x0CD. -/
def execFstox (rd rs1 rs2 : RegNum) (s : State) : Result := s.operate .fpu (fpopWord 52#6 rd rs1 205#9 rs2)

/-- FdTOx (rule R364), opf = 0x0CE. -/
def execFdtox (rd rs1 rs2 : RegNum) (s : State) : Result := s.operate .fpu (fpopWord 52#6 rd rs1 206#9 rs2)

/-- FsTOi (rule R364), opf = 0x0D1. -/
def execFstoi (rd rs1 rs2 : RegNum) (s : State) : Result := s.operate .fpu (fpopWord 52#6 rd rs1 209#9 rs2)

/-- FdTOi (rule R364), opf = 0x0D2. -/
def execFdtoi (rd rs1 rs2 : RegNum) (s : State) : Result := s.operate .fpu (fpopWord 52#6 rd rs1 210#9 rs2)

/-- FxTOi (rule R364), opf = 0x0D3. -/
def execFxtoi (rd rs1 rs2 : RegNum) (s : State) : Result := s.operate .fpu (fpopWord 52#6 rd rs1 211#9 rs2)

/-- FPop2 (rule R365) with an opf that no other row names. -/
def execFpop2 (rd rs1 : RegNum) (opf : BitVec 9) (rs2 : RegNum) (s : State) : Result :=
  s.operate .fpu (fpopWord 53#6 rd rs1 opf rs2)

/-- FCMPs (rule R365), opf = 0x051. -/
def execFcmps (rd rs1 rs2 : RegNum) (s : State) : Result := s.operate .fpu (fpopWord 53#6 rd rs1 81#9 rs2)

/-- FCMPd (rule R365), opf = 0x052. -/
def execFcmpd (rd rs1 rs2 : RegNum) (s : State) : Result := s.operate .fpu (fpopWord 53#6 rd rs1 82#9 rs2)

/-- FCMPx (rule R365), opf = 0x053. -/
def execFcmpx (rd rs1 rs2 : RegNum) (s : State) : Result := s.operate .fpu (fpopWord 53#6 rd rs1 83#9 rs2)

/-- FCMPEs (rule R365), opf = 0x055. -/
def execFcmpes (rd rs1 rs2 : RegNum) (s : State) : Result := s.operate .fpu (fpopWord 53#6 rd rs1 85#9 rs2)

/-- FCMPEd (rule R365), opf = 0x056. -/
def execFcmped (rd rs1 rs2 : RegNum) (s : State) : Result := s.operate .fpu (fpopWord 53#6 rd rs1 86#9 rs2)

/-- FCMPEx (rule R365), opf = 0x057. -/
def execFcmpex (rd rs1 rs2 : RegNum) (s : State) : Result := s.operate .fpu (fpopWord 53#6 rd rs1 87#9 rs2)

end Sys2Proof.Machine
end

