-- ==== Sys2Proof/Machine/Jump.lean ====
section
/-! DEFINITION. CALL, JMPL and RETT (rules R310, R318, R320). -/

namespace Sys2Proof.Machine

/-- A transfer that is always taken ends. -/
def State.jump (s : State) (target : Word) : Result := .next (s.transfer target).retire

/-- CALL (rule R310). -/
def execCall (disp30 : BitVec 30) (s : State) : Result := (s.writeReg 15#5 s.pc).jump (s.callTarget disp30)

/-- JMPL (rule R318). -/
def execJmpl (rd rs1 : RegNum) (op2 : Operand2) (s : State) : Result :=
  s.whenAligned .word (s.effAddr rs1 op2) ((s.writeReg rd s.pc).jump (s.effAddr rs1 op2))

/-- RETT (rule R320): the operands are read in the handler's window (D14), the checks in priority order (D16). -/
def execRett (rs1 : RegNum) (op2 : Operand2) (s : State) : Result :=
  if s.psr.et then s.raise .illegalInstruction
  else
    s.supervisorOnly <|
      if s.windowInvalid (s.psr.cwp + 1#3) then s.raise .windowUnderflow
      else s.whenAligned .word (s.effAddr rs1 op2) (.next (s.returnFromTrap (s.effAddr rs1 op2)))

end Sys2Proof.Machine
end

