-- ==== Sys2Proof/Machine/LoadStore.lean ====
section
/-! DEFINITION. Integer loads, stores and atomics and their alternate-space forms (40_load_store.md). -/

namespace Sys2Proof.Machine

/-- Load a byte, extended by the given function (rules R181, R182). -/
def State.loadByte (s : State) (asi : Asi) (ea : Word) (rd : RegNum) (ext : Byte → Word) : Result :=
  s.readAccess asi ea .byte false false id fun t => (t.writeReg rd (ext (s.readByte asi ea))).complete

/-- Load a halfword, extended by the given function (rules R183, R184). -/
def State.loadHalf (s : State) (asi : Asi) (ea : Word) (rd : RegNum) (ext : BitVec 16 → Word) : Result :=
  s.whenAligned .half ea <|
    s.readAccess asi ea .half false false id fun t => (t.writeReg rd (ext (s.readHalf asi ea))).complete

/-- Load a word (rule R180). -/
def State.loadWord (s : State) (asi : Asi) (ea : Word) (rd : RegNum) : Result :=
  s.whenAligned .word ea <|
    s.readAccess asi ea .word false false id fun t => (t.writeReg rd (s.readWord asi ea)).complete

/-- Load a doubleword into an even-odd pair (rule R186). MEXC on the second word leaves the even register as it was, or
written with a free value: a free choice (U6, log 19). -/
def State.loadDouble (s : State) (asi : Asi) (ea : Word) (rd : RegNum) : Result :=
  s.whenAligned .dbl ea <|
    s.readAccess asi ea .dbl false true id fun t =>
      t.readAccess asi (ea + 4#32) .dbl false false
        (fun f =>
          State.useFree
            (if Config.freeBit f.freeIdx then f.writeReg (evenReg rd) (Config.freeWord (f.freeIdx + 1)) else f) 2)
        fun u =>
          ((u.writeReg (evenReg rd) (s.readWord asi ea)).writeReg (oddReg rd) (s.readWord asi (ea + 4#32))).complete

/-- Store the low byte of a register (rule R191). -/
def State.storeByte (s : State) (asi : Asi) (ea : Word) (rd : RegNum) : Result :=
  s.writeAccess asi ea .byte false false [(s.readReg rd).extractLsb' 0 8] id State.complete

/-- Store the low halfword of a register (rule R192). -/
def State.storeHalf (s : State) (asi : Asi) (ea : Word) (rd : RegNum) : Result :=
  s.whenAligned .half ea <|
    s.writeAccess asi ea .half false false (bytesOfHalf ((s.readReg rd).extractLsb' 0 16)) id State.complete

/-- Store a word (rule R190). DESIGN CHOICE (log 32), unsafe: the one request of a single store, of any size and of a unit too,
has LOCK off, as rule R91's table names LOCK for doubles and atomics alone; rule R113 counts a single store among what is never
split and leaves open whether LOCK is asserted in its first address cycle. -/
def State.storeWord (s : State) (asi : Asi) (ea : Word) (rd : RegNum) : Result :=
  s.whenAligned .word ea <|
    s.writeAccess asi ea .word false false (bytesOfData (s.readReg rd)) id State.complete

/-- Store a doubleword from an even-odd pair (rule R193); an odd rd is forced even (D13, log 13). -/
def State.storeDouble (s : State) (asi : Asi) (ea : Word) (rd : RegNum) : Result :=
  s.whenAligned .dbl ea <|
    s.storeTwo asi ea (s.readReg (evenReg rd)) (s.readReg (oddReg rd)) State.complete

/-- The indivisible read and write of an atomic (rules R112, R210): MEXC on the write leaves r[rd] either value (U7,
log 20). -/
def State.exchange (s : State) (asi : Asi) (ea : Word) (z : Size) (rd : RegNum) (old : Word) (bytes : List Byte) :
    Result :=
  s.readAccess asi ea z true true id fun t =>
    t.writeAccess asi ea z true false bytes
      (fun f => (if Config.freeBit f.freeIdx then f.writeReg rd old else f).useFree 1)
      fun u => (u.writeReg rd old).complete

/-- Read a byte and set it to ones (rule R211). -/
def State.loadStoreByte (s : State) (asi : Asi) (ea : Word) (rd : RegNum) : Result :=
  s.exchange asi ea .byte rd ((s.readByte asi ea).zeroExtend 32) [0xFF#8]

/-- Exchange a register and a word (rule R213). -/
def State.swapWord (s : State) (asi : Asi) (ea : Word) (rd : RegNum) : Result :=
  s.whenAligned .word ea (s.exchange asi ea .word rd (s.readWord asi ea) (bytesOfData (s.readReg rd)))

/-- LDSB (rule R181). -/
def execLdsb (rd rs1 : RegNum) (op2 : Operand2) (s : State) : Result :=
  s.loadByte s.dataAsi (s.effAddr rs1 op2) rd (·.signExtend 32)

/-- LDSBA (rule R206). -/
def execLdsba (rd rs1 : RegNum) (asi : Asi) (rs2 : RegNum) (s : State) : Result :=
  s.supervisorOnly (s.loadByte asi (s.altAddr rs1 rs2) rd (·.signExtend 32))

/-- LDUB (rule R182). -/
def execLdub (rd rs1 : RegNum) (op2 : Operand2) (s : State) : Result :=
  s.loadByte s.dataAsi (s.effAddr rs1 op2) rd (·.zeroExtend 32)

/-- LDUBA (rule R203). -/
def execLduba (rd rs1 : RegNum) (asi : Asi) (rs2 : RegNum) (s : State) : Result :=
  s.supervisorOnly (s.loadByte asi (s.altAddr rs1 rs2) rd (·.zeroExtend 32))

/-- LDSH (rule R183). -/
def execLdsh (rd rs1 : RegNum) (op2 : Operand2) (s : State) : Result :=
  s.loadHalf s.dataAsi (s.effAddr rs1 op2) rd (·.signExtend 32)

/-- LDSHA (rule R207). -/
def execLdsha (rd rs1 : RegNum) (asi : Asi) (rs2 : RegNum) (s : State) : Result :=
  s.supervisorOnly (s.loadHalf asi (s.altAddr rs1 rs2) rd (·.signExtend 32))

/-- LDUH (rule R184). -/
def execLduh (rd rs1 : RegNum) (op2 : Operand2) (s : State) : Result :=
  s.loadHalf s.dataAsi (s.effAddr rs1 op2) rd (·.zeroExtend 32)

/-- LDUHA (rule R204). -/
def execLduha (rd rs1 : RegNum) (asi : Asi) (rs2 : RegNum) (s : State) : Result :=
  s.supervisorOnly (s.loadHalf asi (s.altAddr rs1 rs2) rd (·.zeroExtend 32))

/-- LD (rule R180). -/
def execLd (rd rs1 : RegNum) (op2 : Operand2) (s : State) : Result := s.loadWord s.dataAsi (s.effAddr rs1 op2) rd

/-- LDA (rule R202). -/
def execLda (rd rs1 : RegNum) (asi : Asi) (rs2 : RegNum) (s : State) : Result :=
  s.supervisorOnly (s.loadWord asi (s.altAddr rs1 rs2) rd)

/-- LDD (rule R186). -/
def execLdd (rd rs1 : RegNum) (op2 : Operand2) (s : State) : Result := s.loadDouble s.dataAsi (s.effAddr rs1 op2) rd

/-- LDDA (rule R205). -/
def execLdda (rd rs1 : RegNum) (asi : Asi) (rs2 : RegNum) (s : State) : Result :=
  s.supervisorOnly (s.loadDouble asi (s.altAddr rs1 rs2) rd)

/-- STB (rule R191). -/
def execStb (rd rs1 : RegNum) (op2 : Operand2) (s : State) : Result := s.storeByte s.dataAsi (s.effAddr rs1 op2) rd

/-- STBA (rule R216). -/
def execStba (rd rs1 : RegNum) (asi : Asi) (rs2 : RegNum) (s : State) : Result :=
  s.supervisorOnly (s.storeByte asi (s.altAddr rs1 rs2) rd)

/-- STH (rule R192). -/
def execSth (rd rs1 : RegNum) (op2 : Operand2) (s : State) : Result := s.storeHalf s.dataAsi (s.effAddr rs1 op2) rd

/-- STHA (rule R217). -/
def execStha (rd rs1 : RegNum) (asi : Asi) (rs2 : RegNum) (s : State) : Result :=
  s.supervisorOnly (s.storeHalf asi (s.altAddr rs1 rs2) rd)

/-- ST (rule R190). -/
def execSt (rd rs1 : RegNum) (op2 : Operand2) (s : State) : Result := s.storeWord s.dataAsi (s.effAddr rs1 op2) rd

/-- STA (rule R215). -/
def execSta (rd rs1 : RegNum) (asi : Asi) (rs2 : RegNum) (s : State) : Result :=
  s.supervisorOnly (s.storeWord asi (s.altAddr rs1 rs2) rd)

/-- STD (rule R193). -/
def execStd (rd rs1 : RegNum) (op2 : Operand2) (s : State) : Result := s.storeDouble s.dataAsi (s.effAddr rs1 op2) rd

/-- STDA (rule R218). -/
def execStda (rd rs1 : RegNum) (asi : Asi) (rs2 : RegNum) (s : State) : Result :=
  s.supervisorOnly (s.storeDouble asi (s.altAddr rs1 rs2) rd)

/-- LDSTUB (rule R211). -/
def execLdstub (rd rs1 : RegNum) (op2 : Operand2) (s : State) : Result :=
  s.loadStoreByte s.dataAsi (s.effAddr rs1 op2) rd

/-- LDSTUBA (rule R212). -/
def execLdstuba (rd rs1 : RegNum) (asi : Asi) (rs2 : RegNum) (s : State) : Result :=
  s.supervisorOnly (s.loadStoreByte asi (s.altAddr rs1 rs2) rd)

/-- SWAP (rule R213). -/
def execSwap (rd rs1 : RegNum) (op2 : Operand2) (s : State) : Result := s.swapWord s.dataAsi (s.effAddr rs1 op2) rd

/-- SWAPA (rule R214). -/
def execSwapa (rd rs1 : RegNum) (asi : Asi) (rs2 : RegNum) (s : State) : Result :=
  s.supervisorOnly (s.swapWord asi (s.altAddr rs1 rs2) rd)

end Sys2Proof.Machine
end

