-- ==== Sys2Proof/Machine/Logic.lean ====
section
/-! DEFINITION. The logical instructions (rules R241 to R252). -/

namespace Sys2Proof.Machine

/-- The end of a logical cc instruction: the result is written and sets icc (rule R231). -/
def State.logicCc (s : State) (rd : RegNum) (res : Word) : Result := ((s.writeReg rd res).setIcc (iccLogic res)).complete

/-- AND (rule R241). -/
def execAnd (rd rs1 : RegNum) (op2 : Operand2) (s : State) : Result :=
  (s.writeReg rd (s.readReg rs1 &&& s.op2val op2)).complete

/-- ANDcc (rule R242). -/
def execAndcc (rd rs1 : RegNum) (op2 : Operand2) (s : State) : Result := s.logicCc rd (s.readReg rs1 &&& s.op2val op2)

/-- ANDN (rule R243). -/
def execAndn (rd rs1 : RegNum) (op2 : Operand2) (s : State) : Result :=
  (s.writeReg rd (s.readReg rs1 &&& ~~~(s.op2val op2))).complete

/-- ANDNcc (rule R244). -/
def execAndncc (rd rs1 : RegNum) (op2 : Operand2) (s : State) : Result :=
  s.logicCc rd (s.readReg rs1 &&& ~~~(s.op2val op2))

/-- OR (rule R245). -/
def execOr (rd rs1 : RegNum) (op2 : Operand2) (s : State) : Result :=
  (s.writeReg rd (s.readReg rs1 ||| s.op2val op2)).complete

/-- ORcc (rule R246). -/
def execOrcc (rd rs1 : RegNum) (op2 : Operand2) (s : State) : Result := s.logicCc rd (s.readReg rs1 ||| s.op2val op2)

/-- ORN (rule R247). -/
def execOrn (rd rs1 : RegNum) (op2 : Operand2) (s : State) : Result :=
  (s.writeReg rd (s.readReg rs1 ||| ~~~(s.op2val op2))).complete

/-- ORNcc (rule R248). -/
def execOrncc (rd rs1 : RegNum) (op2 : Operand2) (s : State) : Result :=
  s.logicCc rd (s.readReg rs1 ||| ~~~(s.op2val op2))

/-- XOR (rule R249). -/
def execXor (rd rs1 : RegNum) (op2 : Operand2) (s : State) : Result :=
  (s.writeReg rd (s.readReg rs1 ^^^ s.op2val op2)).complete

/-- XORcc (rule R250). -/
def execXorcc (rd rs1 : RegNum) (op2 : Operand2) (s : State) : Result := s.logicCc rd (s.readReg rs1 ^^^ s.op2val op2)

/-- XNOR (rule R251). -/
def execXnor (rd rs1 : RegNum) (op2 : Operand2) (s : State) : Result :=
  (s.writeReg rd (~~~(s.readReg rs1 ^^^ s.op2val op2))).complete

/-- XNORcc (rule R252). -/
def execXnorcc (rd rs1 : RegNum) (op2 : Operand2) (s : State) : Result :=
  s.logicCc rd (~~~(s.readReg rs1 ^^^ s.op2val op2))

end Sys2Proof.Machine
end

