-- ==== Sys2Proof/Machine/Misc.lean ====
section
/-! DEFINITION. SETHI with the check of Program Flow Control, UNIMP and IFLUSH (rules R240, R380, R381, R460 to R466). -/

namespace Sys2Proof.Machine

/-- The signature of a checksum (rule R462). -/
def signature (c : Word) : BitVec 16 := c.extractLsb' 16 16 ^^^ c.extractLsb' 0 16

/-- A SETHI to r[0] completes with Program Flow Control enabled: the checksum is zeroed (rules R462, R463). -/
def State.closeBlock (s : State) (skip : Bool) : State :=
  { s with checksum := 0#32, pfcSkip := skip, afterCondBranch := false }

/-- The constant of a checking SETHI carries PFC_TAG6 in its six high bits (rules R10, R462, R466). -/
def taggedConstant (p : Params) (imm22 : BitVec 22) : Bool := imm22.extractLsb' 16 6 == p.pfcTag6

/-- The word of the checking SETHI that the compiler places for a signature (rule R466). -/
def checkWord (p : Params) (sig : BitVec 16) : Word := 0x0100#16 ++ sig ||| (p.pfcTag6.zeroExtend 32 <<< 16)

/-- SETHI to r[0] with Program Flow Control enabled (rules R462, R463). A constant that is neither zero nor tagged is outside what
the source defines; here, as U10's total model has it, it checks like a tagged one (log 21). -/
def State.checkFlow (s : State) (imm22 : BitVec 22) : Result :=
  if imm22 = 0#22 then .next (s.closeBlock true).advance
  else if s.pfcSkip || signature s.checksum == imm22.extractLsb' 0 16 then .next (s.closeBlock false).advance
  else s.raise (.hardwareError .programFlow)

/-- SETHI (rule R240). -/
def execSethi (rd : RegNum) (imm22 : BitVec 22) (s : State) : Result :=
  if rd = 0#5 ∧ s.params.flowEnabled = true then s.checkFlow imm22 else (s.writeReg rd (sethiValue imm22)).complete

/-- UNIMP (rule R380). -/
def execUnimp (_const22 : BitVec 22) (s : State) : Result := s.raise .illegalInstruction

/-- IFLUSH (rule R381). -/
def execIflush (_rs1 : RegNum) (_op2 : Operand2) (s : State) : Result :=
  if s.params.iftAsserted then s.raise .illegalInstruction else s.complete

end Sys2Proof.Machine
end

