-- ==== Sys2Proof/Machine/Shift.lean ====
section
/-! DEFINITION. The shifts (rules R253 to R255). -/

namespace Sys2Proof.Machine

/-- SLL (rule R253). -/
def execSll (rd rs1 : RegNum) (cnt : ShiftCount) (s : State) : Result :=
  (s.writeReg rd (s.readReg rs1 <<< (s.shiftCount cnt).toNat)).complete

/-- SRL (rule R254). -/
def execSrl (rd rs1 : RegNum) (cnt : ShiftCount) (s : State) : Result :=
  (s.writeReg rd (s.readReg rs1 >>> (s.shiftCount cnt).toNat)).complete

/-- SRA (rule R255). -/
def execSra (rd rs1 : RegNum) (cnt : ShiftCount) (s : State) : Result :=
  (s.writeReg rd ((s.readReg rs1).sshiftRight (s.shiftCount cnt).toNat)).complete

end Sys2Proof.Machine
end

