-- ==== Sys2Proof/Machine/Trapcc.lean ====
section
/-! DEFINITION. Ticc, one meaning per condition (rule R325). -/

namespace Sys2Proof.Machine

/-- Ticc: a true test traps at once, a false one is a NOP (rule R325). -/
def State.trapIcc (s : State) (cond : BitVec 4) (rs1 : RegNum) (op2 : Operand2) : Result :=
  if iccTest cond s.psr.icc then s.raise (.trapInstruction (s.trapNumber rs1 op2)) else s.complete

/-- TN (rule R325). -/
def execTn (rs1 : RegNum) (op2 : Operand2) (s : State) : Result := s.trapIcc 0#4 rs1 op2

/-- TE (rule R325). -/
def execTe (rs1 : RegNum) (op2 : Operand2) (s : State) : Result := s.trapIcc 1#4 rs1 op2

/-- TLE (rule R325). -/
def execTle (rs1 : RegNum) (op2 : Operand2) (s : State) : Result := s.trapIcc 2#4 rs1 op2

/-- TL (rule R325). -/
def execTl (rs1 : RegNum) (op2 : Operand2) (s : State) : Result := s.trapIcc 3#4 rs1 op2

/-- TLEU (rule R325). -/
def execTleu (rs1 : RegNum) (op2 : Operand2) (s : State) : Result := s.trapIcc 4#4 rs1 op2

/-- TCS (rule R325). -/
def execTcs (rs1 : RegNum) (op2 : Operand2) (s : State) : Result := s.trapIcc 5#4 rs1 op2

/-- TNEG (rule R325). -/
def execTneg (rs1 : RegNum) (op2 : Operand2) (s : State) : Result := s.trapIcc 6#4 rs1 op2

/-- TVS (rule R325). -/
def execTvs (rs1 : RegNum) (op2 : Operand2) (s : State) : Result := s.trapIcc 7#4 rs1 op2

/-- TA (rule R325). -/
def execTa (rs1 : RegNum) (op2 : Operand2) (s : State) : Result := s.trapIcc 8#4 rs1 op2

/-- TNE (rule R325). -/
def execTne (rs1 : RegNum) (op2 : Operand2) (s : State) : Result := s.trapIcc 9#4 rs1 op2

/-- TG (rule R325). -/
def execTg (rs1 : RegNum) (op2 : Operand2) (s : State) : Result := s.trapIcc 10#4 rs1 op2

/-- TGE (rule R325). -/
def execTge (rs1 : RegNum) (op2 : Operand2) (s : State) : Result := s.trapIcc 11#4 rs1 op2

/-- TGU (rule R325). -/
def execTgu (rs1 : RegNum) (op2 : Operand2) (s : State) : Result := s.trapIcc 12#4 rs1 op2

/-- TCC (rule R325). -/
def execTcc (rs1 : RegNum) (op2 : Operand2) (s : State) : Result := s.trapIcc 13#4 rs1 op2

/-- TPOS (rule R325). -/
def execTpos (rs1 : RegNum) (op2 : Operand2) (s : State) : Result := s.trapIcc 14#4 rs1 op2

/-- TVC (rule R325). -/
def execTvc (rs1 : RegNum) (op2 : Operand2) (s : State) : Result := s.trapIcc 15#4 rs1 op2

end Sys2Proof.Machine
end

