-- ==== Sys2Proof/Machine/UnitMem.lean ====
section
/-! DEFINITION. The loads and stores of the FPU and the coprocessor (rules R366 to R372, R376 to R379, R390 to R392). -/

namespace Sys2Proof.Machine

/-- LDF (rule R366). -/
def execLdf (rd rs1 : RegNum) (op2 : Operand2) (s : State) : Result := s.unitLoad .fpu rd (s.effAddr rs1 op2)

/-- LDDF (rule R367). -/
def execLddf (rd rs1 : RegNum) (op2 : Operand2) (s : State) : Result := s.unitLoadDouble .fpu rd (s.effAddr rs1 op2)

/-- LDFSR (rule R368). -/
def execLdfsr (_rd rs1 : RegNum) (op2 : Operand2) (s : State) : Result := s.unitLoadStatus .fpu (s.effAddr rs1 op2)

/-- STF (rule R369). -/
def execStf (rd rs1 : RegNum) (op2 : Operand2) (s : State) : Result :=
  s.unitStoreWord .fpu (UnitKind.computes .fpu (regMask rd)) (s.effAddr rs1 op2) (·.readReg rd)

/-- STDF (rule R370). -/
def execStdf (rd rs1 : RegNum) (op2 : Operand2) (s : State) : Result := s.unitStoreDouble .fpu rd (s.effAddr rs1 op2)

/-- STFSR (rule R371). -/
def execStfsr (_rd rs1 : RegNum) (op2 : Operand2) (s : State) : Result :=
  s.unitStoreWord .fpu needsAll (s.effAddr rs1 op2) (·.status)

/-- STDFQ (rule R372). -/
def execStdfq (_rd rs1 : RegNum) (op2 : Operand2) (s : State) : Result := s.unitStoreQueue .fpu (s.effAddr rs1 op2)

/-- LDC (rule R376). -/
def execLdc (rd rs1 : RegNum) (op2 : Operand2) (s : State) : Result := s.unitLoad .cp rd (s.effAddr rs1 op2)

/-- LDDC (rule R377). -/
def execLddc (rd rs1 : RegNum) (op2 : Operand2) (s : State) : Result := s.unitLoadDouble .cp rd (s.effAddr rs1 op2)

/-- LDCSR (rule R378). -/
def execLdcsr (_rd rs1 : RegNum) (op2 : Operand2) (s : State) : Result := s.unitLoadStatus .cp (s.effAddr rs1 op2)

/-- STC (rule R379). -/
def execStc (rd rs1 : RegNum) (op2 : Operand2) (s : State) : Result :=
  s.unitStoreWord .cp (UnitKind.computes .cp (regMask rd)) (s.effAddr rs1 op2) (·.readReg rd)

/-- STDC (rule R390). -/
def execStdc (rd rs1 : RegNum) (op2 : Operand2) (s : State) : Result := s.unitStoreDouble .cp rd (s.effAddr rs1 op2)

/-- STCSR (rule R391). -/
def execStcsr (_rd rs1 : RegNum) (op2 : Operand2) (s : State) : Result :=
  s.unitStoreWord .cp needsAll (s.effAddr rs1 op2) (·.status)

/-- STDCQ (rule R392). -/
def execStdcq (_rd rs1 : RegNum) (op2 : Operand2) (s : State) : Result := s.unitStoreQueue .cp (s.effAddr rs1 op2)

end Sys2Proof.Machine
end

