-- ==== Sys2Proof/Machine/Windows.lean ====
section
/-! DEFINITION. SAVE and RESTORE (rules R280 to R282). -/

namespace Sys2Proof.Machine

/-- Enter a window with the sum of the old window's operands in a register of the new one; an invalid window traps before
anything changes (rules R280, R281). -/
def State.enterWindow (s : State) (w : Window) (t : Trap) (rd : RegNum) (res : Word) : Result :=
  if s.windowInvalid w then s.raise t else ((s.setCwp w).writeReg rd res).complete

/-- SAVE (rule R280). -/
def execSave (rd rs1 : RegNum) (op2 : Operand2) (s : State) : Result :=
  s.enterWindow (s.psr.cwp - 1#3) .windowOverflow rd (s.readReg rs1 + s.op2val op2)

/-- RESTORE (rule R281). -/
def execRestore (rd rs1 : RegNum) (op2 : Operand2) (s : State) : Result :=
  s.enterWindow (s.psr.cwp + 1#3) .windowUnderflow rd (s.readReg rs1 + s.op2val op2)

end Sys2Proof.Machine
end

