-- ==== Sys2Proof/Machine/Step.lean ====
section
/-! DEFINITION. One step of the machine, and placing an instruction where the next step fetches it. -/

namespace Sys2Proof.Machine

/-- One step: the cycle of rule R485 over the meanings. -/
def step (s : State) : Host.Outcome State Fault Refusal := s.cycle exec

/-- The state with the instruction of the given bits stored where the next step fetches (log 33). -/
def State.withFetchWord (s : State) (nbits w : Nat) : State := s.placeWord (BitVec.ofNat 32 (w % 2 ^ nbits))

end Sys2Proof.Machine
end

