-- ==== Sys2Proof/Machine/Pins.lean ====
section
/-! DEFINITION. Output pins that are functions of the state, of a bus request or of a step's pulses: ERROR, HWERROR, INULL of a
store, the parity outputs, and what a checker drives (rules R91, R430, R450, R451, R472). No step reads them. -/

namespace Sys2Proof.Machine

/-- The number of ones among the low n bits. -/
def onesBelow {w : Nat} (v : BitVec w) : Nat → Nat
  | 0 => 0
  | n + 1 => onesBelow v n + (v.getLsbD n).toNat

/-- The odd parity bit: with it the number of ones is odd (rule R450). -/
def oddParity {w : Nat} (v : BitVec w) : Bool := onesBelow v w % 2 == 0

/-- APAR, over A[31:0] (rule R451). -/
def BusRequest.apar (r : BusRequest) : Bool := oddParity r.addr

/-- ASPAR, over ASI[7:0] and SIZE[1:0] (rule R451). -/
def BusRequest.aspar (r : BusRequest) : Bool := oddParity (r.asi ++ r.size)

/-- DPAR of a write, over D[31:0] with the repeated bytes (rules R95, R451). -/
def BusRequest.dpar (r : BusRequest) : Option Bool := r.data.map oddParity

/-- IMPAR, over DXFER, LDSTO, LOCK, RD, WE and WRT (rule R451). The spec does not say in which cycles WE and WRT are asserted, so
their levels are arguments (log 32). -/
def BusRequest.impar (r : BusRequest) (we wrt : Bool) : Bool :=
  oddParity (BitVec.ofBool r.dxfer ++ BitVec.ofBool r.ldsto ++ BitVec.ofBool r.lock ++ BitVec.ofBool r.rd ++ BitVec.ofBool we
    ++ BitVec.ofBool wrt)

/-- IFPAR, over FINS1, FINS2, FLUSH, FXACK and INST, for the pulses of one clock cycle (rule R451; a step is several cycles, and in
which of them a pulse falls is timing). -/
def ifpar (cycle : List Signal) : Bool :=
  oddParity (BitVec.ofBool (cycle.contains .fins1) ++ BitVec.ofBool (cycle.contains .fins2)
    ++ BitVec.ofBool (cycle.contains .flush) ++ BitVec.ofBool (cycle.contains .fxack) ++ BitVec.ofBool (cycle.contains .inst))

/-- INULL flags the second of the two address cycles of a store (rule R91). DESIGN CHOICE (log 32), unsafe: so too for the second
word of a double store, of which rule R532 shows one address cycle alone and rule R91 says nothing of its own. -/
def BusRequest.secondCycleInull (r : BusRequest) : Bool := !r.rd

/-- ERROR is asserted in error mode (rule R430). -/
def State.errorPin (s : State) : Bool := s.mode == .error

/-- HWERROR (rules R431, R456, R502). -/
def State.hwerrorPin (s : State) : Bool := s.hwerror != .off

/-- The pulses of a step that this chip drives: a checker drives none of them, it drives only ERROR, HWERROR, MCERR and the TAP
(rule R472). -/
def State.drivenSignals (s : State) : List Signal := if s.params.checker then [] else s.signals

end Sys2Proof.Machine
end

