-- ==== Sys2Proof/Machine/Timing.lean ====
section
/-! DEFINITION. The cost function of rule R531 and the clock counts of rule R533 (log 40). No step reads them: time is no state of the
machine (rules R530, R535). -/

namespace Sys2Proof

/-- The cycles of an instruction with memory that never waits (rules R175, R531); taken says whether a Ticc traps. An FPop or
CPop is counted to its launch. -/
def Instr.cycles (taken : Bool) : Instr → Nat
  | .unimp .. => 1
  | .sethi .. => 1
  | .bn .. => 1
  | .be .. => 1
  | .ble .. => 1
  | .bl .. => 1
  | .bleu .. => 1
  | .bcs .. => 1
  | .bneg .. => 1
  | .bvs .. => 1
  | .ba .. => 1
  | .bne .. => 1
  | .bg .. => 1
  | .bge .. => 1
  | .bgu .. => 1
  | .bcc .. => 1
  | .bpos .. => 1
  | .bvc .. => 1
  | .fbn .. => 1
  | .fbne .. => 1
  | .fblg .. => 1
  | .fbul .. => 1
  | .fbl .. => 1
  | .fbug .. => 1
  | .fbg .. => 1
  | .fbu .. => 1
  | .fba .. => 1
  | .fbe .. => 1
  | .fbue .. => 1
  | .fbge .. => 1
  | .fbuge .. => 1
  | .fble .. => 1
  | .fbule .. => 1
  | .fbo .. => 1
  | .cbn .. => 1
  | .cb123 .. => 1
  | .cb12 .. => 1
  | .cb13 .. => 1
  | .cb1 .. => 1
  | .cb23 .. => 1
  | .cb2 .. => 1
  | .cb3 .. => 1
  | .cba .. => 1
  | .cb0 .. => 1
  | .cb03 .. => 1
  | .cb02 .. => 1
  | .cb023 .. => 1
  | .cb01 .. => 1
  | .cb013 .. => 1
  | .cb012 .. => 1
  | .call .. => 1
  | .add .. => 1
  | .and .. => 1
  | .or .. => 1
  | .xor .. => 1
  | .sub .. => 1
  | .andn .. => 1
  | .orn .. => 1
  | .xnor .. => 1
  | .addx .. => 1
  | .subx .. => 1
  | .addcc .. => 1
  | .andcc .. => 1
  | .orcc .. => 1
  | .xorcc .. => 1
  | .subcc .. => 1
  | .andncc .. => 1
  | .orncc .. => 1
  | .xnorcc .. => 1
  | .addxcc .. => 1
  | .subxcc .. => 1
  | .taddcc .. => 1
  | .tsubcc .. => 1
  | .taddcctv .. => 1
  | .tsubcctv .. => 1
  | .mulscc .. => 1
  | .sll .. => 1
  | .srl .. => 1
  | .sra .. => 1
  | .rdy .. => 1
  | .rdpsr .. => 1
  | .rdwim .. => 1
  | .rdtbr .. => 1
  | .wry .. => 1
  | .wrpsr .. => 1
  | .wrwim .. => 1
  | .wrtbr .. => 1
  | .fpop1 .. => 1
  | .fmovs .. => 1
  | .fnegs .. => 1
  | .fabss .. => 1
  | .fsqrts .. => 1
  | .fsqrtd .. => 1
  | .fsqrtx .. => 1
  | .fadds .. => 1
  | .faddd .. => 1
  | .faddx .. => 1
  | .fsubs .. => 1
  | .fsubd .. => 1
  | .fsubx .. => 1
  | .fmuls .. => 1
  | .fmuld .. => 1
  | .fmulx .. => 1
  | .fdivs .. => 1
  | .fdivd .. => 1
  | .fdivx .. => 1
  | .fitos .. => 1
  | .fdtos .. => 1
  | .fxtos .. => 1
  | .fitod .. => 1
  | .fstod .. => 1
  | .fxtod .. => 1
  | .fitox .. => 1
  | .fstox .. => 1
  | .fdtox .. => 1
  | .fstoi .. => 1
  | .fdtoi .. => 1
  | .fxtoi .. => 1
  | .fpop2 .. => 1
  | .fcmps .. => 1
  | .fcmpd .. => 1
  | .fcmpx .. => 1
  | .fcmpes .. => 1
  | .fcmped .. => 1
  | .fcmpex .. => 1
  | .cpop1 .. => 1
  | .cpop2 .. => 1
  | .jmpl .. => 2
  | .rett .. => 2
  | .tn .. => if taken then 4 else 1
  | .te .. => if taken then 4 else 1
  | .tle .. => if taken then 4 else 1
  | .tl .. => if taken then 4 else 1
  | .tleu .. => if taken then 4 else 1
  | .tcs .. => if taken then 4 else 1
  | .tneg .. => if taken then 4 else 1
  | .tvs .. => if taken then 4 else 1
  | .ta .. => if taken then 4 else 1
  | .tne .. => if taken then 4 else 1
  | .tg .. => if taken then 4 else 1
  | .tge .. => if taken then 4 else 1
  | .tgu .. => if taken then 4 else 1
  | .tcc .. => if taken then 4 else 1
  | .tpos .. => if taken then 4 else 1
  | .tvc .. => if taken then 4 else 1
  | .iflush .. => 1
  | .save .. => 1
  | .restore .. => 1
  | .ld .. => 2
  | .ldub .. => 2
  | .lduh .. => 2
  | .ldd .. => 3
  | .st .. => 3
  | .stb .. => 3
  | .sth .. => 3
  | .std .. => 4
  | .ldsb .. => 2
  | .ldsh .. => 2
  | .ldstub .. => 4
  | .swap .. => 4
  | .lda .. => 2
  | .lduba .. => 2
  | .lduha .. => 2
  | .ldda .. => 3
  | .sta .. => 3
  | .stba .. => 3
  | .stha .. => 3
  | .stda .. => 4
  | .ldsba .. => 2
  | .ldsha .. => 2
  | .ldstuba .. => 4
  | .swapa .. => 4
  | .ldf .. => 2
  | .ldfsr .. => 2
  | .lddf .. => 3
  | .stf .. => 3
  | .stfsr .. => 3
  | .stdfq .. => 4
  | .stdf .. => 4
  | .ldc .. => 2
  | .ldcsr .. => 2
  | .lddc .. => 3
  | .stc .. => 3
  | .stcsr .. => 3
  | .stdcq .. => 4
  | .stdc .. => 4

/-- The clock, counted from the change of IRL, in which the first instruction of an interrupt's handler is fetched (rules R444,
R533): the best case, the worst case, behind an instruction of four cycles, and one more when a delay instruction is annulled. -/
def interruptLatency (worst annulledDelay : Bool) : Nat := (if worst then 8 else 5) + annulledDelay.toNat

/-- The clocks for which RESET is held at least (rules R501, R533; a step with RESET asserted is a full reset, log 23). -/
def resetClocks : Nat := 9

end Sys2Proof
end

