-- ==== Sys2Proof/Safety.lean ====
section
/-! DEFINITION. The words in which claims are made: what a step leaves alone, what taking a trap does, which states are good,
and when a step reaches the instruction at PC. -/

namespace Sys2Proof.Machine

/-! ### What stays -/

/-- The flags of every register but the listed ones are as before. -/
def ParityFlags.SameBut {n : Nat} (p q : ParityFlags n) (changed : List Nat) : Prop :=
  ∀ i, i ∉ changed → q.bad.getLsbD i = p.bad.getLsbD i ∧ q.unwritten.getLsbD i = p.unwritten.getLsbD i

/-- Every register of every window reads as before but the listed physical ones, and so does its parity. -/
structure State.SameRegsBut (s t : State) (changed : List Nat) : Prop where
  value : ∀ w n, regIndex w n ∉ changed → t.readRegIn w n = s.readRegIn w n
  parity : s.regParity.SameBut t.regParity changed

/-- Every byte of every address space reads as before. -/
def State.SameMemory (s t : State) : Prop := ∀ asi a, t.readByte asi a = s.readByte asi a

/-- Every byte reads as before but the k bytes from an address of an address space on, under whatever ASI names them. -/
def State.SameMemoryBut (s t : State) (asi : Asi) (ea : Word) (k : Nat) : Prop :=
  ∀ asi' a, (∀ j < k, s.byteKey asi' a ≠ s.byteKey asi (ea + BitVec.ofNat 32 j)) → t.readByte asi' a = s.readByte asi' a

/-- The pins, the mode, WIM, TBR, the parity of the control registers, HWERROR, the platform and what the environment drives
stay. -/
structure State.SameControl (s t : State) : Prop where
  params : t.params = s.params
  mode : t.mode = s.mode
  wim : t.wim = s.wim
  tba : t.tba = s.tba
  tt : t.tt = s.tt
  pfcSkip : t.pfcSkip = s.pfcSkip
  controlParity : t.controlParity = s.controlParity
  hwerror : t.hwerror = s.hwerror
  platform : t.platform = s.platform
  inputs : t.inputs = s.inputs

/-- The FPU and the coprocessor stay. -/
structure State.SameUnits (s t : State) : Prop where
  fpu : t.fpu = s.fpu
  cp : t.cp = s.cp

/-- The bus log grew by these requests; no output pin pulsed. -/
structure State.BusGrows (s t : State) (requests : List BusRequest) : Prop where
  bus : t.bus = s.bus ++ requests
  signals : t.signals = s.signals

/-- The end of an instruction that is no control transfer (rules R34, R461). -/
structure State.EndsInSequence (s t : State) : Prop where
  pc : t.pc = s.npc
  npc : t.npc = s.npc + 4#32
  annul : t.annul = s.annul
  checksum : t.checksum = if s.params.flowEnabled then s.checksum ^^^ s.ir else s.checksum
  afterCondBranch : t.afterCondBranch = false

/-- The end of a delayed control transfer (rules R291, R461). As the second member of a couple whose first is a conditional
branch it leaves any word-aligned PC and nPC (rule R299). -/
structure State.EndsInTransfer (s t : State) (next : Word) : Prop where
  pc : s.afterCondBranch = false → t.pc = s.npc
  npc : s.afterCondBranch = false → t.npc = next
  pcAligned : s.afterCondBranch = true → t.pc &&& 3#32 = 0#32
  npcAligned : s.afterCondBranch = true → t.npc &&& 3#32 = 0#32
  checksum : t.checksum = if s.params.flowEnabled then s.checksum ^^^ s.ir else s.checksum

/-! ### What instructions do -/

/-- An instruction writes one register, maybe the PSR and Y, makes some bus requests, and ends in sequence. Everything else
stays, memory included. With rd = 0 no register changes. -/
structure State.Computes (s t : State) (rd : RegNum) (v : Word) (psr : Psr) (y : Word) (requests : List BusRequest) : Prop where
  result : t.readReg rd = if rd = 0#5 then 0#32 else v
  regs : s.SameRegsBut t [regIndex psr.cwp rd]
  psr : t.psr = psr
  y : t.y = y
  memory : s.SameMemory t
  control : s.SameControl t
  units : s.SameUnits t
  bus : s.BusGrows t requests
  ends : s.EndsInSequence t

/-- An instruction moves data: at most the listed physical registers and so many bytes from an address on change, it makes
some bus requests and ends in sequence. -/
structure State.Moves (s t : State) (changed : List Nat) (asi : Asi) (ea : Word) (bytes : Nat) (requests : List BusRequest) :
    Prop where
  regs : s.SameRegsBut t changed
  psr : t.psr = s.psr
  y : t.y = s.y
  memory : s.SameMemoryBut t asi ea bytes
  control : s.SameControl t
  units : s.SameUnits t
  bus : s.BusGrows t requests
  ends : s.EndsInSequence t

/-- A branch whose test is decided ends; no register, no flag and no byte changes (rules R291, R296). -/
structure State.Branches (s t : State) (taken always a : Bool) (target : Word) : Prop where
  regs : s.SameRegsBut t []
  psr : t.psr = s.psr
  y : t.y = s.y
  memory : s.SameMemory t
  control : s.SameControl t
  units : s.SameUnits t
  bus : s.BusGrows t []
  ends : s.EndsInTransfer t (if taken then target else s.npc + 4#32)
  annul : t.annul = (a && (always || !taken))
  afterCondBranch : t.afterCondBranch = !always

/-- A jump that is always taken ends, with one register written (rules R310, R318). -/
structure State.Jumps (s t : State) (rd : RegNum) (v : Word) (target : Word) : Prop where
  result : t.readReg rd = if rd = 0#5 then 0#32 else v
  regs : s.SameRegsBut t [regIndex s.psr.cwp rd]
  psr : t.psr = s.psr
  y : t.y = s.y
  memory : s.SameMemory t
  control : s.SameControl t
  units : s.SameUnits t
  bus : s.BusGrows t []
  ends : s.EndsInTransfer t target
  annul : t.annul = s.annul
  afterCondBranch : t.afterCondBranch = false

/-- An instruction of a unit ends in sequence; of the IU and of the other unit nothing changes but memory and the bus. -/
structure State.OnlyUnit (s t : State) (kind : UnitKind) : Prop where
  regs : s.SameRegsBut t []
  psr : t.psr = s.psr
  y : t.y = s.y
  control : s.SameControl t
  other : ∀ k, k ≠ kind → t.unit k = s.unit k
  ends : s.EndsInSequence t

/-- The unit is enabled and idle: nothing queued, no exception. -/
structure State.UnitIdle (s : State) (kind : UnitKind) : Prop where
  enabled : s.unitEnabled kind = true
  queue : (s.unit kind).queue = []
  pending : (s.unit kind).excPending = false
  exceptionMode : (s.unit kind).excMode = false

/-- A word of a floating-point instruction, by op, op2 and op3 alone (rule R361). -/
def fpWord (w : Word) : Bool :=
  (fieldOp w == 0b10#2 && (fieldOp3 w == 0b110100#6 || fieldOp3 w == 0b110101#6)) ||
    (fieldOp w == 0b00#2 && fieldOpTwo w == 0b110#3) ||
    (fieldOp w == 0b11#2 &&
      [0b100000#6, 0b100001#6, 0b100011#6, 0b100100#6, 0b100101#6, 0b100110#6, 0b100111#6].contains (fieldOp3 w))

/-- A word of a coprocessor instruction, by op, op2 and op3 alone (rule R362). -/
def cpWord (w : Word) : Bool :=
  (fieldOp w == 0b10#2 && (fieldOp3 w == 0b110110#6 || fieldOp3 w == 0b110111#6)) ||
    (fieldOp w == 0b00#2 && fieldOpTwo w == 0b111#3) ||
    (fieldOp w == 0b11#2 &&
      [0b110000#6, 0b110001#6, 0b110011#6, 0b110100#6, 0b110101#6, 0b110110#6, 0b110111#6].contains (fieldOp3 w))

/-- The words of the unit's instructions. -/
def UnitKind.ownsWord : UnitKind → Word → Bool
  | .fpu => fpWord
  | .cp => cpWord

/-- The privileged instructions whose only check before the privilege check is the decoder's (rule R480): all but WRPSR and
RETT. -/
def privilegedForms (rd rs1 rs2 : RegNum) (op2 : Operand2) (asi : Asi) : List Instr :=
  [.rdpsr rd, .rdwim rd, .rdtbr rd, .wrwim rs1 op2, .wrtbr rs1 op2, .ldsba rd rs1 asi rs2, .ldsha rd rs1 asi rs2,
    .lduba rd rs1 asi rs2, .lduha rd rs1 asi rs2, .lda rd rs1 asi rs2, .ldda rd rs1 asi rs2, .stba rd rs1 asi rs2,
    .stha rd rs1 asi rs2, .sta rd rs1 asi rs2, .stda rd rs1 asi rs2, .ldstuba rd rs1 asi rs2, .swapa rd rs1 asi rs2,
    .stdfq rd rs1 op2, .stdcq rd rs1 op2]

/-! ### Bus requests, attribute by attribute (rules R90, R91) -/

/-- A read. -/
def State.readRequest (s : State) (asi : Asi) (ea : Word) (size : BitVec 2) (ldsto lock : Bool) : BusRequest where
  addr := ea
  asi := asi
  size := size
  rd := true
  ldsto := ldsto
  lock := lock
  dxfer := true
  data := none
  driven := !s.params.checker

/-- A write that drives a word on D[31:0]. -/
def State.writeRequest (s : State) (asi : Asi) (ea : Word) (size : BitVec 2) (ldsto lock : Bool) (data : Word) :
    BusRequest where
  addr := ea
  asi := asi
  size := size
  rd := false
  ldsto := ldsto
  lock := lock
  dxfer := true
  data := some data
  driven := !s.params.checker

/-! ### Taking a trap -/

/-- Taking a trap leads from one state to another (rules R420, R430): every line of the entry sequence and all that stays. -/
structure State.Traps (k : Trap) (s t : State) : Prop where
  psr : t.psr = { s.psr with et := false, ps := s.psr.s, s := true, cwp := s.psr.cwp - 1#3 }
  savedPc : t.readReg 17#5 = s.pc
  savedNpc : t.readReg 18#5 = s.npc
  regs : s.SameRegsBut t [regIndex (s.psr.cwp - 1#3) 17#5, regIndex (s.psr.cwp - 1#3) 18#5]
  tt : t.tt = k.tt
  pc : t.pc = s.tba ++ k.tt ++ 0#4
  npc : t.npc = (s.tba ++ k.tt ++ 0#4) + 4#32
  annul : t.annul = false
  mode : t.mode = if s.psr.et then s.mode else .error
  pfcSkip : t.pfcSkip = (s.params.flowEnabled || s.pfcSkip)
  checksum : t.checksum = s.checksum
  wim : t.wim = s.wim
  tba : t.tba = s.tba
  y : t.y = s.y
  memory : s.SameMemory t
  params : t.params = s.params
  platform : t.platform = s.platform
  controlParity : t.controlParity = s.controlParity
  hwerror : t.hwerror = s.hwerror
  inputs : t.inputs = s.inputs

/-- A step ended by entering a trap handler or error mode (rules R420, R430). -/
structure State.EnteredTrap (s t : State) : Prop where
  et : t.psr.et = false
  supervisor : t.psr.s = true
  ps : t.psr.ps = s.psr.s
  cwp : t.psr.cwp = s.psr.cwp - 1#3
  pc : t.pc = t.tba ++ t.tt ++ 0#4
  npc : t.npc = t.pc + 4#32
  annul : t.annul = false
  tba : t.tba = s.tba
  wim : t.wim = s.wim
  mode : t.mode = if s.psr.et then s.mode else .error

/-! ### A unit with work in its queue -/

/-- What a unit is after it worked on its queue, unless that raised an exception (rules R393, R394): the front of the queue is gone,
no compare and nothing that the instruction waits for is left; registers that no queued instruction writes, and, with no
compare queued, the condition codes are as they were. -/
structure State.UnitWorked (s : State) (kind : UnitKind) (u : Coproc) (waits : Word → Bool) : Prop where
  queue : u.queue <:+ (s.unit kind).queue
  waited : ∀ e ∈ u.queue, kind.setsCc e.2 = false ∧ waits e.2 = false
  pending : u.excPending = false
  exceptionMode : u.excMode = false
  regs : ∀ n, (∀ e ∈ (s.unit kind).queue, (kind.writes e.2).getLsbD n.toNat = false) → u.readReg n = (s.unit kind).readReg n
  cc : (∀ e ∈ (s.unit kind).queue, kind.setsCc e.2 = false) → kind.ccField u.status = s.unitCc kind

/-- A queued instruction raised its exception, and the IU took the trap at the instruction at PC: exception mode is entered with
the excepting instruction at the front of the queue (rule R363). -/
structure State.UnitExcepted (s t : State) (kind : UnitKind) : Prop where
  entered : s.EnteredTrap t
  tt : t.tt = kind.exceptionTrap.tt
  exceptionMode : (t.unit kind).excMode = true
  pending : (t.unit kind).excPending = false
  front : (t.unit kind).queue ≠ []
  queue : (t.unit kind).queue <:+ (s.unit kind).queue
  other : ∀ k, k ≠ kind → t.unit k = s.unit k
  memory : s.SameMemory t
  bus : t.bus = s.bus
  y : t.y = s.y
  regs : s.SameRegsBut t [regIndex (s.psr.cwp - 1#3) 17#5, regIndex (s.psr.cwp - 1#3) 18#5]

/-- The unit is enabled, with nothing pending and not in exception mode; its queue may hold anything. -/
structure State.UnitReady (s : State) (kind : UnitKind) : Prop where
  enabled : s.unitEnabled kind = true
  pending : (s.unit kind).excPending = false
  exceptionMode : (s.unit kind).excMode = false

/-- The unit is enabled and in exception mode (rule R363). -/
structure State.UnitExcepting (s : State) (kind : UnitKind) : Prop where
  enabled : s.unitEnabled kind = true
  pending : (s.unit kind).excPending = false
  exceptionMode : (s.unit kind).excMode = true

/-! ### Good states -/

/-- A unit's exception state is consistent (rule R363): a pending exception, and exception mode, have the unfinished
instruction at the front of the queue, and they exclude each other. -/
structure Coproc.Good (u : Coproc) : Prop where
  pending : u.excPending = true → u.queue ≠ [] ∧ u.excMode = false
  exceptionMode : u.excMode = true → u.queue ≠ []

/-- The invariant of the machine: the counters are aligned (rule R32), memory is in its canonical form, the units are consistent,
the tag of Program Flow Control is not zero (rule R466). -/
structure State.Good (s : State) : Prop where
  pc : s.pc &&& 3#32 = 0#32
  npc : s.npc &&& 3#32 = 0#32
  mem : Memory.wf s.mem = true
  fpu : s.fpu.Good
  cp : s.cp.Good
  pfcTag : s.params.pfcTag6 ≠ 0#6

/-- Error mode entered by a trap has traps disabled and nothing to annul (rules R36, R430). An error of the RESET pin, which puts
the machine into error mode from anywhere (rule R431), need not leave it so. -/
def State.ErrorQuiet (s : State) : Prop := s.mode = .error → s.psr.et = false ∧ s.annul = false

/-- What may change between two steps without the machine: the pins, memory that other agents write, what the platform answers, an
upset of stored bits (rule R457), and CMODE while halted or in reset mode (rules R472, R502). -/
structure State.Environment (s t : State) : Prop where
  mem : Memory.wf t.mem = true
  checker : s.inputs.halt = true ∨ s.mode = .reset ∨ t.params.checker = s.params.checker
  rest : t = { s with
    params := { s.params with checker := t.params.checker }
    inputs := t.inputs
    mem := t.mem
    platform := t.platform
    globals := t.globals
    windows := t.windows
    psr := t.psr
    wim := t.wim
    tba := t.tba
    tt := t.tt
    y := t.y
    regParity := t.regParity
    controlParity := t.controlParity }

/-- No upset has come: the only wrong parity bits are of registers that nothing has written since power-up (rules R450, U11). -/
structure State.ParityFaultFree (s : State) : Prop where
  regs : ∀ i, s.regParity.bad.getLsbD i = true → s.regParity.unwritten.getLsbD i = true
  controls : ∀ i, s.controlParity.bad.getLsbD i = true → s.controlParity.unwritten.getLsbD i = true

/-! ### When a step reaches the instruction at PC -/

/-- The machine executes: no pin stops it. -/
structure State.Running (s : State) : Prop where
  halt : s.inputs.halt = false
  resetFault : s.inputs.resetFault = false
  reset : s.inputs.reset = false
  mode : s.mode = .execute
  pc : s.pc &&& 3#32 = 0#32

/-- Nothing comes before the instruction at PC, and its fetch is accepted (rule R485). -/
structure State.Fetches (s : State) : Prop where
  running : s.Running
  annul : s.annul = false
  noError : s.hwError = none
  noInterrupt : s.interruptPending = false
  accepted : s.refuses s.fetchRequest = false

end Sys2Proof.Machine
end

