-- ==== Sys2Proof/Certificates/Slice0/Obligations.lean ====
section
/-! DEFINITION. The statements for the provers. Each docstring says which rule of spec/ it formalises, and what in it is the
model's choice. -/

open Sys2Proof Sys2Proof.Machine

/-! ### Encodings -/

/-- Decoding the bytes of an encoded well-formed instruction gives it back, whatever follows (rules R131 to R133, R137,
R146 to R151). -/
def Obligations.DecodeEncodeAgree : Prop :=
  ∀ (i : Instr) (rest : List Byte), i.wellFormed = true → decode (encodeBytes i ++ rest) = .ok (i, rest)

/-- Every word is an instruction without a second spelling, or is refused: what the decoder gives is well-formed (rules R137,
R150, R151). -/
def Obligations.DecodedIsWellFormed : Prop :=
  ∀ (w : Word) (i : Instr), decodeWord w = .ok i → i.wellFormed = true

/-- Fields that an instruction does not use decide nothing (rules R138, R320, R325, R339, R344, R380, R381): bits 12:5 of a
register form, rd of RETT, IFLUSH and the WR instructions, rs1 and bits 13:0 of the RD instructions, bit 29 of Ticc, bits 29:25 of
UNIMP. That bits 12:5 of a shift with i = 1 decide nothing is not in rule R138 but in rule R142's general knowledge (PRESUMED, log
29). Of the fields that rule R138 lists this leaves out rd of the FCMPs and rs1 of the FPops of one operand: those stand in the
launched word, which the FPU decodes. -/
def Obligations.IgnoredFieldsDecideNothing : Prop :=
  ∀ (rd rs1 rs2 : RegNum) (b8 b8' : BitVec 8) (c : BitVec 22) (low : BitVec 19) (cond : BitVec 4) (x : BitVec 14),
    (∀ op3 : BitVec 6, op3 ∉ [52#6, 53#6, 54#6, 55#6] →
        decodeWord (fmt3 2#2 rd op3 rs1 (0#1 ++ b8 ++ rs2)) = decodeWord (fmt3 2#2 rd op3 rs1 (0#1 ++ b8' ++ rs2))) ∧
      (∀ op3 ∈ [37#6, 38#6, 39#6],
        decodeWord (fmt3 2#2 rd op3 rs1 (1#1 ++ b8 ++ rs2)) = decodeWord (fmt3 2#2 rd op3 rs1 (1#1 ++ b8' ++ rs2))) ∧
      (∀ op3 : BitVec 6, op3.extractLsb' 4 2 ≠ 1#2 →
        decodeWord (fmt3 3#2 rd op3 rs1 (0#1 ++ b8 ++ rs2)) = decodeWord (fmt3 3#2 rd op3 rs1 (0#1 ++ b8' ++ rs2))) ∧
      (∀ op3 ∈ [48#6, 49#6, 50#6, 51#6, 57#6, 59#6],
        decodeWord (fmt3 2#2 rd op3 rs1 x) = decodeWord (fmt3 2#2 0#5 op3 rs1 x)) ∧
      decodeWord (2#2 ++ rd ++ 40#6 ++ low) = .ok (.rdy rd) ∧
      decodeWord (2#2 ++ rd ++ 41#6 ++ low) = .ok (.rdpsr rd) ∧
      decodeWord (2#2 ++ rd ++ 42#6 ++ low) = .ok (.rdwim rd) ∧
      decodeWord (2#2 ++ rd ++ 43#6 ++ low) = .ok (.rdtbr rd) ∧
      decodeWord (2#2 ++ 1#1 ++ cond ++ 58#6 ++ rs1 ++ x) = decodeWord (2#2 ++ 0#1 ++ cond ++ 58#6 ++ rs1 ++ x) ∧
      decodeWord (fmt2Imm rd 0#3 c) = .ok (.unimp c)

/-- Some words written out from the encodings stand for the instructions they should, words of every format among them. That
0x87A04822 is FADDs rests on opf 0x041, one of the values whose lost digits rule R150 supplies from general knowledge (PRESUMED,
log 29). -/
def Obligations.WrittenWordsDecode : Prop :=
  decodeWord 0x40000010#32 = .ok (.call 0x10#30) ∧
    decodeWord 0x03048D15#32 = .ok (.sethi 1#5 0x048D15#22) ∧
    decodeWord 0x32BFFFFE#32 = .ok (.bne true 0x3FFFFE#22) ∧
    decodeWord 0x03800002#32 = .ok (.fbne false 2#22) ∧
    decodeWord 0x13C00002#32 = .ok (.cb0 false 2#22) ∧
    decodeWord 0x86007FFF#32 = .ok (.add 3#5 1#5 (.imm 0x1FFF#13)) ∧
    decodeWord 0x86A04002#32 = .ok (.subcc 3#5 1#5 (.reg 2#5)) ∧
    decodeWord 0x87386003#32 = .ok (.sra 3#5 1#5 (.imm 3#5)) ∧
    decodeWord 0x9FC3E008#32 = .ok (.jmpl 15#5 15#5 (.imm 8#13)) ∧
    decodeWord 0x91D0601F#32 = .ok (.ta 1#5 (.imm 0x1F#13)) ∧
    decodeWord 0x81886000#32 = .ok (.wrpsr 1#5 (.imm 0#13)) ∧
    decodeWord 0x87A04822#32 = .ok (.fadds 3#5 1#5 2#5) ∧
    decodeWord 0xC6804142#32 = .ok (.lda 3#5 1#5 0x0A#8 2#5) ∧
    decodeWord 0xD2184000#32 = .ok (.ldd 9#5 1#5 (.reg 0#5)) ∧
    decodeWord 0xC1304000#32 = .ok (.stdfq 0#5 1#5 (.reg 0#5)) ∧
    decodeWord 0x00000007#32 = .ok (.unimp 7#22) ∧
    decodeWord 0x81D86000#32 = .ok (.iflush 1#5 (.imm 0#13))

/-! ### The step -/

/-- An unassigned word is fetched and traps as an illegal instruction (rules R136, R139, R148, R149, R154, R382), and these
are all the words that are no instruction. That HWERROR is deasserted first if it waited for this address is the model's choice
between the two wordings of rule R456 (log 22). -/
def Obligations.UnassignedWordsTrap : Prop :=
  (∀ w : Word, (∃ e, decodeWord w = .error e) ↔
      (fieldOp w = 0#2 ∧ fieldOpTwo w ∈ [1#3, 3#3, 5#3]) ∨
        (fieldOp w = 2#2 ∧ fieldOp3 w ∈
          [9#6, 10#6, 11#6, 13#6, 14#6, 15#6, 25#6, 26#6, 27#6, 29#6, 30#6, 31#6, 44#6, 45#6, 46#6, 47#6, 62#6, 63#6]) ∨
        (fieldOp w = 3#2 ∧
          (fieldOp3 w ∈
              [8#6, 11#6, 12#6, 14#6, 24#6, 27#6, 28#6, 30#6, 34#6, 40#6, 41#6, 42#6, 43#6, 44#6, 45#6, 46#6, 47#6, 50#6,
                56#6, 57#6, 58#6, 59#6, 60#6, 61#6, 62#6, 63#6] ∨
            (fieldOp3 w ∈
              [16#6, 17#6, 18#6, 19#6, 20#6, 21#6, 22#6, 23#6, 25#6, 26#6, 29#6, 31#6] ∧ fieldI w = 1#1)))) ∧
    ∀ (s : State) (e : DecodeError), s.Fetches → s.fetchStable = true → decodeWord (s.readWord s.fetchAsi s.pc) = .error e →
      ∃ t, step s = .next t ∧
        State.Traps .illegalInstruction
          { s with hwerror := if s.hwerror = .untilResumed s.pc then .off else s.hwerror } t

/-- When the word at PC decodes to an instruction and no register it reads has a wrong parity bit, the step is that instruction's
meaning, in the state that the fetch and the other bus masters leave: the word in the instruction register, one request on the bus,
INST pulsed, HWERROR deasserted if it waited for this address, the store history one instruction older, the bytes that other masters
write between the fetch and the data requests written, all else as it was (rules R485, R91, R113, R360; HWERROR is the model's
choice between the two wordings of rule R456, log 22; the store history is the model's, log 12; that such writes are held as a list
of bytes is the model's, log 42). A wrong parity bit is HardwareErrorTaken's case. -/
def Obligations.StepRunsDecoded : Prop :=
  ∀ (s : State) (i : Instr), s.Fetches → s.fetchStable = true → decodeWord (s.readWord s.fetchAsi s.pc) = .ok i →
    s.sourceError (s.readWord s.fetchAsi s.pc) = none →
    step s = exec i
      { s with
        ir := s.readWord s.fetchAsi s.pc
        bus := [⟨s.pc, if s.psr.s then 0x09#8 else 0x08#8, 0b10#2, true, false, false, false, none, !s.params.checker⟩]
        signals := [.inst]
        hwerror := if s.hwerror = .untilResumed s.pc then .off else s.hwerror
        storeUndo2 := s.storeUndo1
        storeUndo1 := []
        mem := s.otherMasters.mem
        inputs := { s.inputs with busWrites := [] } } ∧
    (s.inputs.busWrites = [] → s.otherMasters = s) ∧
    (Memory.wf s.mem = true → Memory.wf s.otherMasters.mem = true ∧ ∀ asi a, s.otherMasters.readByte asi a =
      s.inputs.busWrites.foldl (fun b w => if s.byteKey w.asi w.addr = s.byteKey asi a then w.data else b)
        (s.readByte asi a))

/-- The model's choice for rule R118 and decision D12 (log 12): the fetched word is the one in memory, the one before the last
instruction's store, or the one before the last two's; with no such stores it is the one in memory, and two fetches later
no store is remembered. -/
def Obligations.FetchSeesMemoryOrPrefetch : Prop :=
  ∀ s : State,
    s.fetchWord ∈ [s.readWord s.fetchAsi s.pc, s.wordBeforeOne, s.wordBeforeTwo] ∧
      (s.storeUndo1 = [] → s.storeUndo2 = [] →
        s.fetchStable = true ∧ s.fetchWord = s.readWord s.fetchAsi s.pc) ∧
      s.fetched.fetched.storeUndo1 = [] ∧ s.fetched.fetched.storeUndo2 = [] ∧ s.fetched.fetched.mem = s.mem

/-- An annulled instruction is consumed: annul is cleared, PC and nPC advance, its word is fetched (MEXC ignored) and enters the
checksum of Program Flow Control, and nothing else changes: no trap and no interrupt comes, a transfer transfers nothing; INULL
flags the fetch (rules R96, R101, R297, R461). That a SETHI to r[0] does not enter the checksum is rule R461's own inference
(DEDUCED, log 30). -/
def Obligations.AnnulledStep : Prop :=
  ∀ s : State, s.Running → s.annul = true →
    ∃ t, step s = .next t ∧ t.annul = false ∧ t.pc = s.npc ∧ t.npc = s.npc + 4#32 ∧ s.SameRegsBut t [] ∧ t.psr = s.psr ∧
      t.y = s.y ∧ s.SameMemory t ∧ s.SameControl t ∧ s.SameUnits t ∧ t.signals = [.inst, .inull] ∧
      (∃ r, t.bus = [r] ∧ r.addr = s.pc ∧ r.asi = (if s.psr.s then 0x09#8 else 0x08#8) ∧ r.rd = true ∧ r.dxfer = false) ∧
      (s.params.flowEnabled = false → t.checksum = s.checksum) ∧
      (s.params.flowEnabled = true →
        t.checksum = if sethiZero s.fetchWord then s.checksum else s.checksum ^^^ s.fetchWord)

/-- At an instruction boundary an interrupt is taken exactly when ET = 1 and the request is 15 or above PIL; otherwise the
instruction at PC runs, after what other bus masters write between its fetch and its data requests (rules R113, R440; that PIL
and ET are those the last instruction left is decision D19). -/
def Obligations.InterruptAcceptance : Prop :=
  ∀ s : State, s.Running → s.annul = false → s.hwError = none →
    ((s.psr.et = true ∧ s.inputs.irl ≠ 0#4 ∧ (s.inputs.irl = 15#4 ∨ s.psr.pil.toNat < s.inputs.irl.toNat)) →
      ∃ t, step s = .next t ∧ State.Traps (.interruptLevel s.inputs.irl) s t ∧ t.tt.toNat = 16 + s.inputs.irl.toNat ∧
        t.mode = .execute ∧ .intack ∈ t.signals) ∧
    (¬(s.psr.et = true ∧ s.inputs.irl ≠ 0#4 ∧ (s.inputs.irl = 15#4 ∨ s.psr.pil.toNat < s.inputs.irl.toNat)) →
      s.refuses s.fetchRequest = false → ∀ i, decodeWord s.fetchWord = .ok i → s.sourceError s.fetchWord = none →
      step s = exec i s.quiet.fetched.otherMasters)

/-- Hardware errors, those detected at a boundary and those of registers with a wrong parity bit that the fetched instruction
reads: of all of them the one of the highest priority is taken, before every other trap of the instruction, HWERROR is asserted,
and r[17] and r[18] hold PC and nPC, for type 0x64 anything; HWERROR then stays asserted until the instruction is resumed, or
until a reset for type 0x64 and for an error that comes while it waits for one (rules R410, R450, R452, R454, R456, R457; that
other errors come at boundaries, accompany the instruction at PC, come before an interrupt and are consumed, how long HWERROR
stays, and that a load whose data error is taken late, type 0x63, has written its register (rule R173 keeps it on any trap), is
the model's choice, log 22; which registers an instruction reads is DEDUCED, log 24). -/
def Obligations.HardwareErrorTaken : Prop :=
  let taken (s t : State) (e : HwError) : Prop :=
    s.EnteredTrap t ∧ t.tt = e.tt ∧ t.hwerrorPin = true ∧
      (t.hwerror = if s.hwerror = .untilReset ∨ e = .nonRestartableImprecise then .untilReset else .untilResumed s.pc) ∧
      s.SameMemory t ∧ s.SameUnits t ∧ t.y = s.y ∧
      (e ≠ .nonRestartableImprecise → t.readReg 17#5 = s.pc ∧ t.readReg 18#5 = s.npc) ∧
      s.SameRegsBut t [regIndex (s.psr.cwp - 1#3) 17#5, regIndex (s.psr.cwp - 1#3) 18#5]
  let flagged (s : State) (w : Word) (e : HwError) : Prop :=
    (∃ i, decodeWord w = .ok i) ∧
      ((e = .registerFile ∧ ∃ n ∈ sourceRegs w, n ≠ 0#5 ∧ s.regParity.bad.getLsbD (regIndex s.psr.cwp n) = true) ∨
        ∃ r ∈ sourceControls w, e = r.error ∧ s.controlParity.bad.getLsbD r.index = true)
  (∀ s : State, s.Running → s.annul = false → (∃ x ∈ s.inputs.parityErrors, checksSite s.params x = true) →
    let detected (e : HwError) : Prop :=
      (∃ x ∈ s.inputs.parityErrors, checksSite s.params x = true ∧ e = x.error) ∨
        (s.refuses s.fetchRequest = false ∧ flagged s s.fetchWord e)
    ∃ e, detected e ∧ (∀ f, detected f → e.priority ≤ f.priority) ∧
      ∃ t, step s = .next t ∧ taken s t e ∧ t.inputs.parityErrors = []) ∧
    ∀ s : State, s.Fetches → s.fetchStable = true →
      let w := s.readWord s.fetchAsi s.pc
      (∃ e, flagged s w e) →
      ∃ e, flagged s w e ∧ (∀ f, flagged s w f → e.priority ≤ f.priority) ∧ ∃ t, step s = .next t ∧ taken s t e

/-- In error mode a step does nothing (no fetch, no interrupt, no state change) and ERROR, and HWERROR if a hardware error led
here, stay asserted, until RESET, which puts the machine into reset mode and deasserts both (rules R431, R432, R502). The bus log
and the pulses, which hold what one step does, are empty. A halted machine takes no step at all (rule R470). -/
def Obligations.ErrorModeStays : Prop :=
  ∀ s : State, s.mode = .error →
    (s.inputs.reset = false →
      ∃ t, step s = .next t ∧ t = { s with bus := t.bus, signals := t.signals } ∧ t.errorPin = true ∧
        t.hwerrorPin = s.hwerrorPin ∧ (s.inputs.halt = false → t.bus = [] ∧ t.signals = [])) ∧
      (s.inputs.reset = true → s.inputs.resetFault = false → s.inputs.halt = false →
        ∃ t, step s = .next t ∧ t.mode = .reset ∧ t.errorPin = false ∧ t.hwerrorPin = false)

/-- HALT freezes the machine whatever else is asserted (rule R470; that it comes before RESET is the model's choice, log 31). -/
def Obligations.HaltFreezes : Prop := ∀ s : State, s.inputs.halt = true → step s = .next s

/-- RESET puts the machine into reset mode and deasserts HWERROR; deasserted, the next step gives ET, S, PC, nPC, annul and the
checker their reset values and keeps everything else, and the next fetch, the first since RESET was asserted, is a supervisor
fetch at 0 (rules R500, R501, R502, R506, R533; annul = 0 is decision D9, log 10; the emptied store history is the model's, log
12; that RESET drops the parity events not yet taken is the model's choice, log 22; that a reset pulses INULL, in every step while
RESET is asserted, and no FLUSH, is the model's choice, rules R360, R400 and R501 leaving it open, DESIGN CHOICE, log 32). An
error in the two-rail coding of RESET leads to error mode instead (rules R431, R501; that HALT still freezes the machine then, and
that nothing else changes, is the model's choice, log 23). -/
def Obligations.ResetSequence : Prop :=
  (∀ s : State, s.inputs.halt = false → s.inputs.resetFault = false → s.inputs.reset = true →
      step s = .next
        { s with
          mode := .reset
          hwerror := .off
          bus := []
          signals := [.inull]
          inputs := { s.inputs with parityErrors := [] } }) ∧
    (∀ s : State, s.inputs.halt = false → s.inputs.resetFault = true →
      ∃ t, step s = .next t ∧ t = { s with mode := .error, bus := [], signals := [] } ∧ t.errorPin = true) ∧
    ∀ s : State, s.inputs.halt = false → s.inputs.resetFault = false → s.inputs.reset = false → s.mode = .reset →
      ∃ t, step s = .next t ∧
        t = { s with
          mode := .execute
          psr := { s.psr with et := false, s := true }
          pc := 0#32
          npc := 4#32
          annul := false
          afterCondBranch := false
          checksum := 0#32
          pfcSkip := false
          storeUndo1 := []
          storeUndo2 := []
          bus := []
          signals := [] } ∧
        t.fetchRequest.addr = 0#32 ∧ t.fetchRequest.asi = 0x09#8

/-! ### Traps -/

/-- Taking any trap, from any state, does what the entry sequence says and nothing else; with ET = 0 it ends in error mode
with ERROR asserted (rules R420, R421, R430; that annul is cleared is the spec's inference, rule R36). -/
def Obligations.TrapEntry : Prop :=
  ∀ (k : Trap) (s : State),
    (∃ t, s.raise k = .next t ∧ State.Traps k s t ∧ (s.psr.et = false → t.errorPin = true) ∧
      (s.mode = .execute → s.psr.et = true → t.errorPin = false) ∧
      t.fpu = (if k = .fpException then { s.fpu with excPending := false, excMode := true } else s.fpu) ∧
      t.cp = (if k = .cpException then { s.cp with excPending := false, excMode := true } else s.cp) ∧
      .flush ∈ t.signals ∧ .inull ∈ t.signals)

/-- The trap types and priorities of the trap table (rule R405), and the error types by place (rule R452). -/
def Obligations.TrapTable : Prop :=
  ([Trap.hardwareError .restartablePrecise, .hardwareError .nonRestartablePrecise, .hardwareError .restartableLate,
      .hardwareError .nonRestartableImprecise, .hardwareError .registerFile, .hardwareError .programFlow,
      .instructionAccessException, .illegalInstruction, .privilegedInstruction, .fpDisabled, .cpDisabled, .windowOverflow,
      .windowUnderflow, .memAddressNotAligned, .fpException, .cpException, .dataAccessException,
      .tagOverflow].map fun k => (k.tt.toNat, k.priority)) =
    [(97, 2), (98, 2), (99, 2), (100, 2), (101, 2), (102, 2), (1, 3), (2, 4), (3, 5), (4, 6), (36, 6), (5, 7), (6, 7), (7, 8),
      (8, 9), (40, 9), (9, 10), (10, 11)] ∧
    (∀ n, (Trap.trapInstruction n).tt.toNat = 128 + n.toNat ∧ (Trap.trapInstruction n).priority = 12) ∧
    (∀ n, n ≠ 0#4 → (Trap.interruptLevel n).tt.toNat = 16 + n.toNat ∧ (Trap.interruptLevel n).priority = 28 - n.toNat) ∧
    ([ErrorSite.registerFile, .fetchStage, .decodeStage, .executeStage, .writeStage, .psr, .wim, .tbr, .y, .dataBusFetch,
      .dataBusLoad].map fun x => x.error.tt.toNat) = [0x65, 0x61, 0x62, 0x64, 0x64, 0x64, 0x62, 0x62, 0x61, 0x61, 0x63] ∧
    ([HwError.nonRestartableImprecise, .nonRestartablePrecise, .registerFile, .restartableLate, .restartablePrecise,
      .programFlow].map HwError.priority) = [1, 2, 3, 4, 5, 6]

/-- A fetch that the memory system refuses traps, the word not being executed; a load, a store or an atomic of the IU, normal form
or, in supervisor mode, alternate-space form, whose (first) request is refused traps, no register and no byte changing (rules
R100, R101, R102, R173). An atomic whose read is accepted and whose write is refused traps with memory unchanged; r[rd] then holds
what it held or what was loaded (U7, log 20). That the request of STD or STDA with an odd rd, which rule R193 makes a
precondition, carries the register with bit 0 of rd forced to 0 is decision D13 (DEDUCED, log 13), and that LOCK is off in the
request of a single store is the model's choice (log 32). The second words of LDD and STD are in DoubleLoads and DoubleStores, the
transfers of the FPU and the coprocessor in UnitLoads, UnitStores and QueueStores. -/
def Obligations.RefusedAccessesTrap : Prop :=
  (∀ s : State, s.Running → s.annul = false → s.hwError = none → s.interruptPending = false →
      s.refuses s.fetchRequest = true → ∃ t, step s = .next t ∧ State.Traps .instructionAccessException s t) ∧
    ∀ (s : State) (rd rs1 rs2 : RegNum) (op2 : Operand2) (asi : Asi),
      let v := s.readReg rd
      let b0 := v.extractLsb' 0 8
      let b1 := v.extractLsb' 8 8
      let normal := (s.readReg rs1 + s.op2val op2 : Word)
      let alternate := s.readReg rs1 + s.readReg rs2
      let dataAsi : Asi := if s.psr.s then 0x0B#8 else 0x0A#8
      let traps (i : Instr) (r : BusRequest) : Prop :=
        ∃ t, exec i s = .next t ∧ State.Traps .dataAccessException s t ∧ s.SameUnits t ∧ t.bus = s.bus ++ [r]
      (∀ p ∈ [(Instr.ld rd rs1 op2, Instr.lda rd rs1 asi rs2, 3#32, fun x e => s.readRequest x e 0b10#2 false false),
          (.ldub rd rs1 op2, .lduba rd rs1 asi rs2, 0#32, fun x e => s.readRequest x e 0b00#2 false false),
          (.ldsb rd rs1 op2, .ldsba rd rs1 asi rs2, 0#32, fun x e => s.readRequest x e 0b00#2 false false),
          (.lduh rd rs1 op2, .lduha rd rs1 asi rs2, 1#32, fun x e => s.readRequest x e 0b01#2 false false),
          (.ldsh rd rs1 op2, .ldsha rd rs1 asi rs2, 1#32, fun x e => s.readRequest x e 0b01#2 false false),
          (.ldd rd rs1 op2, .ldda rd rs1 asi rs2, 7#32, fun x e => s.readRequest x e 0b11#2 false true),
          (.st rd rs1 op2, .sta rd rs1 asi rs2, 3#32, fun x e => s.writeRequest x e 0b10#2 false false v),
          (.stb rd rs1 op2, .stba rd rs1 asi rs2, 0#32,
            fun x e => s.writeRequest x e 0b00#2 false false (b0 ++ b0 ++ b0 ++ b0)),
          (.sth rd rs1 op2, .stha rd rs1 asi rs2, 1#32,
            fun x e => s.writeRequest x e 0b01#2 false false (b1 ++ b0 ++ b1 ++ b0)),
          (.std rd rs1 op2, .stda rd rs1 asi rs2, 7#32,
            fun x e => s.writeRequest x e 0b11#2 false true (s.readReg (rd &&& 0b11110#5))),
          (.ldstub rd rs1 op2, .ldstuba rd rs1 asi rs2, 0#32, fun x e => s.readRequest x e 0b00#2 true true),
          (.swap rd rs1 op2, .swapa rd rs1 asi rs2, 3#32, fun x e => s.readRequest x e 0b10#2 true true)],
        (normal &&& p.2.2.1 = 0#32 → s.refuses (p.2.2.2 dataAsi normal) = true → traps p.1 (p.2.2.2 dataAsi normal)) ∧
          (s.psr.s = true → alternate &&& p.2.2.1 = 0#32 → s.refuses (p.2.2.2 asi alternate) = true →
            traps p.2.1 (p.2.2.2 asi alternate))) ∧
      ∀ p ∈ [(Instr.ldstub rd rs1 op2, dataAsi, normal, false, true), (.ldstuba rd rs1 asi rs2, asi, alternate, true, true),
          (.swap rd rs1 op2, dataAsi, normal, false, false), (.swapa rd rs1 asi rs2, asi, alternate, true, false)],
        let space := p.2.1
        let ea := p.2.2.1
        let byte := p.2.2.2.2
        let size := if byte then 0b00#2 else 0b10#2
        let old := if byte then BitVec.ofNat 32 (s.readByte space ea).toNat else s.readWord space ea
        let read := s.readRequest space ea size true true
        let write := s.writeRequest space ea size true false (if byte then 0xFFFFFFFF#32 else v)
        (p.2.2.2.1 = true → s.psr.s = true) → (byte = true ∨ ea &&& 3#32 = 0#32) → s.refuses read = false →
          s.refuses write = true →
          ∃ t, exec p.1 s = .next t ∧ s.EnteredTrap t ∧ t.tt = 0x09#8 ∧ s.SameMemory t ∧ s.SameUnits t ∧ t.y = s.y ∧
            t.bus = s.bus ++ [read, write] ∧
            (t.readRegIn s.psr.cwp rd = v ∨ rd ≠ 0#5 ∧ t.readRegIn s.psr.cwp rd = old) ∧
            s.SameRegsBut t [regIndex s.psr.cwp rd, regIndex (s.psr.cwp - 1#3) 17#5, regIndex (s.psr.cwp - 1#3) 18#5]

/-- A halfword, word or doubleword load, store or atomic whose address is no multiple of its size traps, in no part performed:
no request reaches the bus, no register and no byte changes. A byte access has no such check (rule R172). The forms of the
IU in user and supervisor mode; the alternate-space forms and the queue stores in supervisor mode; those of the FPU and the
coprocessor with the unit enabled. -/
def Obligations.MisalignedAccessesTrap : Prop :=
  ∀ (s : State) (rd rs1 rs2 : RegNum) (op2 : Operand2) (asi : Asi),
    let ea := s.readReg rs1 + s.op2val op2
    let misaligned (i : Instr) : Prop := ∃ t, exec i s = .next t ∧ State.Traps .memAddressNotAligned s t ∧ t.bus = s.bus
    (∀ p ∈ [(1#32, [Instr.ldsh rd rs1 op2, .lduh rd rs1 op2, .sth rd rs1 op2]),
        (3#32, [Instr.ld rd rs1 op2, .st rd rs1 op2, .swap rd rs1 op2]),
        (7#32, [Instr.ldd rd rs1 op2, .std rd rs1 op2])],
      ea &&& p.1 ≠ 0#32 → ∀ i ∈ p.2, misaligned i) ∧
    (∀ p ∈ [(1#32, [Instr.ldsha rd rs1 asi rs2, .lduha rd rs1 asi rs2, .stha rd rs1 asi rs2]),
        (3#32, [Instr.lda rd rs1 asi rs2, .sta rd rs1 asi rs2, .swapa rd rs1 asi rs2]),
        (7#32, [Instr.ldda rd rs1 asi rs2, .stda rd rs1 asi rs2])],
      s.psr.s = true → (s.readReg rs1 + s.readReg rs2) &&& p.1 ≠ 0#32 → ∀ i ∈ p.2, misaligned i) ∧
    (∀ p ∈ [(UnitKind.fpu, [Instr.ldf rd rs1 op2, .ldfsr rd rs1 op2, .stf rd rs1 op2, .stfsr rd rs1 op2],
          [Instr.lddf rd rs1 op2, .stdf rd rs1 op2], Instr.stdfq rd rs1 op2),
        (.cp, [.ldc rd rs1 op2, .ldcsr rd rs1 op2, .stc rd rs1 op2, .stcsr rd rs1 op2],
          [.lddc rd rs1 op2, .stdc rd rs1 op2], .stdcq rd rs1 op2)],
      s.unitEnabled p.1 = true →
        (ea &&& 3#32 ≠ 0#32 → ∀ i ∈ p.2.1, misaligned i) ∧
        (ea &&& 7#32 ≠ 0#32 → (∀ i ∈ p.2.2.1, misaligned i) ∧ (s.psr.s = true → misaligned p.2.2.2))) ∧
    ∀ i ∈ [Instr.ldsb rd rs1 op2, .ldub rd rs1 op2, .stb rd rs1 op2, .ldstub rd rs1 op2, .ldsba rd rs1 asi rs2,
        .lduba rd rs1 asi rs2, .stba rd rs1 asi rs2, .ldstuba rd rs1 asi rs2],
      ∀ t, exec i s = .next t → t.tt = 0x07#8 → s.tt = 0x07#8

/-! ### Invariants -/

/-- Every step, and everything the environment may do between two steps, keeps the invariant of the machine (rules R32, R363, R466;
the form of memory is the model's). Every step without an error of the RESET pin keeps error mode with traps disabled and nothing
to annul (rules R36, R430; an error of the RESET pin is rule R431's other way into error mode). -/
def Obligations.StepKeepsGood : Prop :=
  (∀ s t : State, s.Good → (step s = .next t ∨ s.Environment t) → t.Good) ∧
    ∀ s t : State, s.ErrorQuiet → s.inputs.resetFault = false → step s = .next t → t.ErrorQuiet

/-- The machine after reset is good, not in error mode, and without a parity fault (the values of what reset leaves open are the
model's choices, logs 1 to 4, 21, 24, 36). -/
def Obligations.ResetIsGood : Prop := State.reset.Good ∧ State.reset.ErrorQuiet ∧ State.reset.ParityFaultFree

/-- A good machine never stops: every step has a next state, and so has every run (rules R432, R485: a trap with ET = 0 is
error mode, where steps go on doing nothing). -/
def Obligations.GoodMachineGoesOn : Prop :=
  (∀ s : State, s.Good → ∃ t, step s = .next t) ∧
    ∀ (n : Nat) (s : State), s.Good → ∃ t, Host.Core.run Sys2Proof.core n s = .next t ∧ State.Good t

/-- User mode cannot reach what the PSR, WIM and TBR protect: a step of a user program leaves WIM, TBA, EC, EF and PIL alone,
and, unless it enters a trap handler, S, PS, ET, the trap type and the mode too (rules R47, R480 to R482). -/
def Obligations.UserModeIsConfined : Prop :=
  ∀ s t : State, s.Running → s.psr.s = false → step s = .next t →
    t.wim = s.wim ∧ t.tba = s.tba ∧ t.psr.ec = s.psr.ec ∧ t.psr.ef = s.psr.ef ∧ t.psr.pil = s.psr.pil ∧ t.params = s.params ∧
      (s.EnteredTrap t ∨
        (t.psr.s = false ∧ t.psr.ps = s.psr.ps ∧ t.psr.et = s.psr.et ∧ t.tt = s.tt ∧ t.mode = s.mode))

/-- The trap type changes, and error mode is entered, only by taking a trap (rules R407, R430). -/
def Obligations.OnlyTrapsWriteTt : Prop :=
  ∀ s t : State, s.Running → step s = .next t → s.EnteredTrap t ∨ (t.tt = s.tt ∧ t.mode = .execute)

/-- In user mode the current window moves only to a neighbour that WIM does not mark invalid, or by a trap (rules R25, R52,
R482). -/
def Obligations.UserWindowsAreGuarded : Prop :=
  ∀ s t : State, s.Running → s.psr.s = false → step s = .next t → ¬s.EnteredTrap t → t.psr.cwp ≠ s.psr.cwp →
    (t.psr.cwp = s.psr.cwp + 1#3 ∨ t.psr.cwp = s.psr.cwp - 1#3) ∧ s.wim.getLsbD t.psr.cwp.toNat = false

/-- The privileged instructions in user mode take privileged_instruction, and no other instruction does (rule R480). WRPSR of
a CWP that names no window (decision D18, log 17; the written value is the exclusive or of rule R344, general knowledge, log 29)
and RETT with ET = 1 take illegal_instruction, which ranks higher (rule R410); that RETT with ET = 0 in user mode has type 3 is
decision D16 (log 14). -/
def Obligations.PrivilegedInstructions : Prop :=
  ∀ s : State, s.psr.s = false →
    (∀ rd rs1 rs2 op2 asi, ∀ i ∈ privilegedForms rd rs1 rs2 op2 asi,
      ∃ t, exec i s = .next t ∧ State.Traps .privilegedInstruction s t) ∧
    (∀ rs1 op2, ∃ t, exec (.wrpsr rs1 op2) s = .next t ∧
      State.Traps (if 8 ≤ ((s.readReg rs1 ^^^ s.op2val op2).extractLsb' 0 5).toNat then .illegalInstruction
        else .privilegedInstruction) s t) ∧
    (∀ rs1 op2, ∃ t, exec (.rett rs1 op2) s = .next t ∧
      State.Traps (if s.psr.et then .illegalInstruction else .privilegedInstruction) s t) ∧
    ∀ i, (∀ rd rs1 rs2 op2 asi, i ∉ privilegedForms rd rs1 rs2 op2 asi) → (∀ rs1 op2, i ≠ .wrpsr rs1 op2) →
      (∀ rs1 op2, i ≠ .rett rs1 op2) → ∀ t, exec i s = .next t → t.tt = 0x03#8 → s.tt = 0x03#8

/-! ### Registers and operands -/

/-- r[0] reads as 0 from every window and a write of it changes nothing; a load to r[0] still reads memory, and a jump that
links to r[0] still jumps (rule R23). -/
def Obligations.RegisterZero : Prop :=
  ∀ s : State,
    (∀ w, s.readRegIn w 0#5 = 0#32) ∧ (∀ w v, s.writeRegIn w 0#5 v = s) ∧ (∀ i t, exec i s = .next t → t.readReg 0#5 = 0#32) ∧
      ∀ rs1 op2, (s.readReg rs1 + s.op2val op2) &&& 3#32 = 0#32 →
        (s.refuses (s.readRequest s.dataAsi (s.readReg rs1 + s.op2val op2) 0b10#2 false false) = false →
          ∃ t, exec (.ld 0#5 rs1 op2) s = .next t ∧ s.SameRegsBut t [] ∧
            t.bus = s.bus ++ [s.readRequest s.dataAsi (s.readReg rs1 + s.op2val op2) 0b10#2 false false]) ∧
          ∃ t, exec (.jmpl 0#5 rs1 op2) s = .next t ∧ s.SameRegsBut t [] ∧
            (s.afterCondBranch = false → t.npc = s.readReg rs1 + s.op2val op2)

/-- Windows overlap as a ring of eight: the ins of a window are the outs of the one above, the globals are one set, the locals
belong to one window; a write shows under exactly the names of that storage (rules R22, R24). -/
def Obligations.WindowsOverlap : Prop :=
  ∀ (s : State) (w w' : Window) (n n' : RegNum) (v : Word),
    (24 ≤ n.toNat → s.readRegIn w n = s.readRegIn (w + 1#3) (n - 16#5)) ∧
      (n.toNat < 8 → s.readRegIn w n = s.readRegIn w' n) ∧
      (s.writeRegIn w n v).readRegIn w' n' =
        if n' = 0#5 then 0#32
        else if (n.toNat < 8 ∧ n' = n) ∨ (w' = w ∧ n' = n) ∨ (24 ≤ n.toNat ∧ w' = w + 1#3 ∧ n' = n - 16#5) ∨
            (24 ≤ n'.toNat ∧ w = w' + 1#3 ∧ n = n' - 16#5) then v
        else s.readRegIn w' n'

/-- The operands: a register or a signed constant, addresses modulo 2^32 (decision D7), shift counts modulo 32 (log 29), trap
numbers modulo 128 (rules R140 to R142, R145, R200). -/
def Obligations.OperandForms : Prop :=
  ∀ (s : State) (rs1 rs2 : RegNum) (c : BitVec 13) (op2 : Operand2) (n : BitVec 5),
    s.op2val (.reg rs2) = s.readReg rs2 ∧ (s.op2val (.imm c)).toInt = c.toInt ∧
      (s.effAddr rs1 op2).toNat = ((s.readReg rs1).toNat + (s.op2val op2).toNat) % 2 ^ 32 ∧
      (s.altAddr rs1 rs2).toNat = ((s.readReg rs1).toNat + (s.readReg rs2).toNat) % 2 ^ 32 ∧
      (s.shiftCount (.reg rs2)).toNat = (s.readReg rs2).toNat % 32 ∧ s.shiftCount (.imm n) = n ∧
      (s.trapNumber rs1 op2).toNat = ((s.readReg rs1).toNat + (s.op2val op2).toNat) % 128

/-! ### Logic, shifts, arithmetic -/

/-- AND, ANDN, OR, ORN, XOR, XNOR write their function of a and b and change nothing else (rules R241, R243, R245, R247, R249,
R251; that the second operand is the complemented one is general knowledge, log 29). -/
def Obligations.LogicalResults : Prop :=
  ∀ (s : State) (rd rs1 : RegNum) (op2 : Operand2),
    ∀ p ∈ [(Instr.and rd rs1 op2, s.readReg rs1 &&& s.op2val op2), (.andn rd rs1 op2, s.readReg rs1 &&& ~~~s.op2val op2),
        (.or rd rs1 op2, s.readReg rs1 ||| s.op2val op2), (.orn rd rs1 op2, s.readReg rs1 ||| ~~~s.op2val op2),
        (.xor rd rs1 op2, s.readReg rs1 ^^^ s.op2val op2), (.xnor rd rs1 op2, ~~~(s.readReg rs1 ^^^ s.op2val op2))],
      ∃ t, exec p.1 s = .next t ∧ s.Computes t rd p.2 s.psr s.y []

/-- The cc forms of the logical instructions write the result and set N and Z from it, V and C to 0 (rule R231), with rd = 0
too. That ANDNcc, ORNcc and XNORcc complement the second operand is general knowledge (log 29). -/
def Obligations.LogicalCcResults : Prop :=
  ∀ (s : State) (rd rs1 : RegNum) (op2 : Operand2),
    ∀ p ∈ [(Instr.andcc rd rs1 op2, s.readReg rs1 &&& s.op2val op2),
        (.andncc rd rs1 op2, s.readReg rs1 &&& ~~~s.op2val op2), (.orcc rd rs1 op2, s.readReg rs1 ||| s.op2val op2),
        (.orncc rd rs1 op2, s.readReg rs1 ||| ~~~s.op2val op2), (.xorcc rd rs1 op2, s.readReg rs1 ^^^ s.op2val op2),
        (.xnorcc rd rs1 op2, ~~~(s.readReg rs1 ^^^ s.op2val op2))],
      ∃ t f, exec p.1 s = .next t ∧ s.Computes t rd p.2 { s.psr with icc := f } s.y [] ∧ f.n = p.2.getLsbD 31 ∧
        (f.z = true ↔ p.2 = 0#32) ∧ f.v = false ∧ f.c = false

/-- The shifts, on numbers: SLL multiplies by a power of two modulo 2^32, SRL divides the unsigned value, SRA the signed one,
rounding down; no flag changes (rules R253 to R255). -/
def Obligations.ShiftResults : Prop :=
  ∀ (s : State) (rd rs1 : RegNum) (cnt : ShiftCount),
    (∃ t v, exec (.sll rd rs1 cnt) s = .next t ∧ s.Computes t rd v s.psr s.y [] ∧
      v.toNat = (s.readReg rs1).toNat * 2 ^ (s.shiftCount cnt).toNat % 2 ^ 32) ∧
    (∃ t v, exec (.srl rd rs1 cnt) s = .next t ∧ s.Computes t rd v s.psr s.y [] ∧
      v.toNat = (s.readReg rs1).toNat / 2 ^ (s.shiftCount cnt).toNat) ∧
    ∃ t v, exec (.sra rd rs1 cnt) s = .next t ∧ s.Computes t rd v s.psr s.y [] ∧
      v.toInt = (s.readReg rs1).toInt / 2 ^ (s.shiftCount cnt).toNat

/-- ADD, ADDX, SUB, SUBX, on numbers modulo 2^32; no flag changes (rules R256, R258, R260, R262; that SUBX subtracts the carry
is general knowledge, log 29). -/
def Obligations.AddSubResults : Prop :=
  ∀ (s : State) (rd rs1 : RegNum) (op2 : Operand2),
    ∀ p ∈ [(Instr.add rd rs1 op2, (s.readReg rs1).toInt + (s.op2val op2).toInt),
        (.addx rd rs1 op2, (s.readReg rs1).toInt + (s.op2val op2).toInt + (if s.psr.icc.c then 1 else 0)),
        (.sub rd rs1 op2, (s.readReg rs1).toInt - (s.op2val op2).toInt),
        (.subx rd rs1 op2, (s.readReg rs1).toInt - (s.op2val op2).toInt - (if s.psr.icc.c then 1 else 0))],
      ∃ t, exec p.1 s = .next t ∧ s.Computes t rd (BitVec.ofInt 32 p.2) s.psr s.y []

/-- ADDcc and ADDXcc: the sum modulo 2^32, N and Z of it, C the carry out of the unsigned sum, and V, in both wordings of rule
R232 (the second is the spec's own inference): the sign rule, and the signed sum's overflow (rules R232, R257, R259). -/
def Obligations.AddCcResults : Prop :=
  ∀ (s : State) (rd rs1 : RegNum) (op2 : Operand2),
    let a := s.readReg rs1
    let b := s.op2val op2
    ∀ p ∈ [(Instr.addcc rd rs1 op2, false), (.addxcc rd rs1 op2, s.psr.icc.c)],
      let cin : Nat := if p.2 then 1 else 0
      ∃ t f res, exec p.1 s = .next t ∧ s.Computes t rd res { s.psr with icc := f } s.y [] ∧
        res.toNat = (a.toNat + b.toNat + cin) % 2 ^ 32 ∧ f.n = res.getLsbD 31 ∧ (f.z = true ↔ res = 0#32) ∧
        (f.v = true ↔ a.getLsbD 31 = b.getLsbD 31 ∧ res.getLsbD 31 ≠ a.getLsbD 31) ∧
        (f.v = true ↔ a.toInt + b.toInt + cin < -2 ^ 31 ∨ 2 ^ 31 ≤ a.toInt + b.toInt + cin) ∧
        (f.c = true ↔ 2 ^ 32 ≤ a.toNat + b.toNat + cin)

/-- SUBcc and SUBXcc: the difference modulo 2^32, N and Z of it, C the borrow of the unsigned difference, and V, in both
wordings of rule R233 (rules R233, R261, R263; that SUBXcc subtracts the carry is general knowledge, log 29). -/
def Obligations.SubCcResults : Prop :=
  ∀ (s : State) (rd rs1 : RegNum) (op2 : Operand2),
    let a := s.readReg rs1
    let b := s.op2val op2
    ∀ p ∈ [(Instr.subcc rd rs1 op2, false), (.subxcc rd rs1 op2, s.psr.icc.c)],
      let cin : Nat := if p.2 then 1 else 0
      ∃ t f res, exec p.1 s = .next t ∧ s.Computes t rd res { s.psr with icc := f } s.y [] ∧
        res = BitVec.ofInt 32 ((a.toNat : Int) - b.toNat - cin) ∧ f.n = res.getLsbD 31 ∧ (f.z = true ↔ res = 0#32) ∧
        (f.v = true ↔ a.getLsbD 31 ≠ b.getLsbD 31 ∧ res.getLsbD 31 ≠ a.getLsbD 31) ∧
        (f.v = true ↔ a.toInt - b.toInt - cin < -2 ^ 31 ∨ 2 ^ 31 ≤ a.toInt - b.toInt - cin) ∧
        (f.c = true ↔ a.toNat < b.toNat + cin)

/-- The tagged instructions: V tells a nonzero tag or a signed overflow. TADDcc and TSUBcc write the result and icc;
TADDccTV and TSUBccTV do so with V = 0 or, where V would be 1, take tag_overflow and write nothing (rules R264 to R267). -/
def Obligations.TaggedResults : Prop :=
  ∀ (s : State) (rd rs1 : RegNum) (op2 : Operand2),
    let a := s.readReg rs1
    let b := s.op2val op2
    ∀ p ∈ [(Instr.taddcc rd rs1 op2, Instr.taddcctv rd rs1 op2, a + b, a.toInt + b.toInt, decide (2 ^ 32 ≤ a.toNat + b.toNat)),
        (.tsubcc rd rs1 op2, .tsubcctv rd rs1 op2, a - b, a.toInt - b.toInt, decide (a.toNat < b.toNat))],
      let res := p.2.2.1
      let exact := p.2.2.2.1
      let overflow := a.extractLsb' 0 2 ≠ 0#2 ∨ b.extractLsb' 0 2 ≠ 0#2 ∨ exact < -2 ^ 31 ∨ 2 ^ 31 ≤ exact
      (∃ t f, exec p.1 s = .next t ∧ s.Computes t rd res { s.psr with icc := f } s.y [] ∧ f.n = res.getLsbD 31 ∧
        (f.z = true ↔ res = 0#32) ∧ (f.v = true ↔ overflow) ∧ f.c = p.2.2.2.2) ∧
      (¬overflow → ∃ t f, exec p.2.1 s = .next t ∧ s.Computes t rd res { s.psr with icc := f } s.y [] ∧
        f.n = res.getLsbD 31 ∧ (f.z = true ↔ res = 0#32) ∧ f.v = false ∧ f.c = p.2.2.2.2) ∧
      (overflow → ∃ t, exec p.2.1 s = .next t ∧ State.Traps .tagOverflow s t)

/-- MULScc: a shifted right with N xor V on top, plus b if Y is odd; the flags of that addition; Y shifted right with the low
bit of a on top (rule R270, which took the operation from general knowledge, log 29). -/
def Obligations.MultiplyStep : Prop :=
  ∀ (s : State) (rd rs1 : RegNum) (op2 : Operand2),
    let a := s.readReg rs1
    let x := a.toNat / 2 + (if s.psr.icc.n = s.psr.icc.v then 0 else 2 ^ 31)
    let z := if s.y.toNat % 2 = 1 then (s.op2val op2).toNat else 0
    ∃ t f res, exec (.mulscc rd rs1 op2) s = .next t ∧
      (s.wroteControl .y).Computes t rd res { s.psr with icc := f } (BitVec.ofNat 32 (s.y.toNat / 2 + a.toNat % 2 * 2 ^ 31)) [] ∧
      res.toNat = (x + z) % 2 ^ 32 ∧ f.n = res.getLsbD 31 ∧ (f.z = true ↔ res = 0#32) ∧ (f.c = true ↔ 2 ^ 32 ≤ x + z) ∧
      (f.v = true ↔ (2 ^ 31 ≤ x ↔ 2 ^ 31 ≤ z) ∧ ¬(2 ^ 31 ≤ (x + z) % 2 ^ 32 ↔ 2 ^ 31 ≤ x))

/-- SETHI to a register, or to r[0] with Program Flow Control off: the constant times 1024 (rules R144, R240). -/
def Obligations.SethiResult : Prop :=
  ∀ (s : State) (rd : RegNum) (imm22 : BitVec 22), (rd ≠ 0#5 ∨ s.params.flowEnabled = false) →
    ∃ t, exec (.sethi rd imm22) s = .next t ∧ s.Computes t rd (BitVec.ofNat 32 (imm22.toNat * 1024)) s.psr s.y []

/-- SETHI to r[0] with Program Flow Control on: constant 0 zeroes the checksum and disables the next check; any other checks
the signature unless the check is disabled, zeroes the checksum and enables checking, or traps with type 0x66 and without
HWERROR (rules R462, R463; that a constant without the tag checks as one with it is U10's total model, log 21). The checking word
of a signature carries PFC_TAG6 above it, and is never the NOP (rule R466). -/
def Obligations.FlowCheck : Prop :=
  ∀ (s : State) (imm22 : BitVec 22), s.params.flowEnabled = true →
    let done (skip : Bool) : State :=
      { s with pc := s.npc, npc := s.npc + 4#32, checksum := 0#32, pfcSkip := skip, afterCondBranch := false }
    let matches' := (s.checksum.extractLsb' 16 16 ^^^ s.checksum.extractLsb' 0 16) = imm22.extractLsb' 0 16
    exec (.sethi 0#5 0#22) s = .next (done true) ∧
      (imm22 ≠ 0#22 → s.pfcSkip = true ∨ matches' → exec (.sethi 0#5 imm22) s = .next (done false)) ∧
      (imm22 ≠ 0#22 → s.pfcSkip = false → ¬matches' →
        ∃ t, exec (.sethi 0#5 imm22) s = .next t ∧ State.Traps (.hardwareError .programFlow) s t ∧ t.tt = 0x66#8 ∧
          t.pfcSkip = true ∧ t.hwerrorPin = s.hwerrorPin) ∧
      ∀ sig : BitVec 16, s.params.pfcTag6 ≠ 0#6 →
        decodeWord (checkWord s.params sig) = .ok (.sethi 0#5 (s.params.pfcTag6 ++ sig)) ∧
          taggedConstant s.params (s.params.pfcTag6 ++ sig) = true ∧ s.params.pfcTag6 ++ sig ≠ 0#22 ∧
          (s.params.pfcTag6 ++ sig).extractLsb' 0 16 = sig

/-! ### Windows and control transfers -/

/-- SAVE and RESTORE add in the old window, write in the new one, and make it current; if WIM marks it invalid they trap and
change nothing (rules R280 to R282). -/
def Obligations.SaveRestore : Prop :=
  ∀ (s : State) (rd rs1 : RegNum) (op2 : Operand2),
    ∀ p ∈ [(Instr.save rd rs1 op2, s.psr.cwp - 1#3, Trap.windowOverflow),
        (.restore rd rs1 op2, s.psr.cwp + 1#3, Trap.windowUnderflow)],
      (s.wim.getLsbD p.2.1.toNat = false →
        ∃ t, exec p.1 s = .next t ∧
          s.Computes t rd (s.readReg rs1 + s.op2val op2) { s.psr with cwp := p.2.1 } s.y [] ∧
          t.readRegIn p.2.1 rd = if rd = 0#5 then 0#32 else s.readReg rs1 + s.op2val op2) ∧
      (s.wim.getLsbD p.2.1.toNat = true → ∃ t, exec p.1 s = .next t ∧ State.Traps p.2.2 s t)

/-- The sixteen branches on the integer condition codes: the test, the target from the branch base (decision D1), the delayed
transfer, the annul bit (rules R291, R292, R296, R300; the formulas of rule R301 are general knowledge, log 29). BN counts as a
conditional branch of case 6 (decision D15, log 15); as the second member of such a couple the branch completes with any aligned
PC and nPC (U1's total alternative, log 15). -/
def Obligations.IccBranches : Prop :=
  ∀ (s : State) (a : Bool) (d : BitVec 22),
    let f := s.psr.icc
    let base := match s.params.branchBase with
      | .pc => s.pc
      | .pcPlus4 => s.pc + 4#32
    ∀ p ∈ [(Instr.bn a d, false), (.be a d, f.z), (.ble a d, f.z || (f.n != f.v)), (.bl a d, f.n != f.v),
        (.bleu a d, f.c || f.z), (.bcs a d, f.c), (.bneg a d, f.n), (.bvs a d, f.v), (.ba a d, true), (.bne a d, !f.z),
        (.bg a d, !f.z && (f.n == f.v)), (.bge a d, f.n == f.v), (.bgu a d, !f.c && !f.z), (.bcc a d, !f.c),
        (.bpos a d, !f.n), (.bvc a d, !f.v)],
      ∃ t, exec p.1 s = .next t ∧
        s.Branches t p.2 (p.1 == .ba a d) a (base + BitVec.ofInt 32 (4 * d.toInt))

/-- The sixteen branches on the FPU's condition codes, which are two bits of the FSR (their place is open, log 35), 0 equal, 1
less, 2 greater, 3 unordered (log 29). With the FPU enabled and idle they act as the integer branches do; with FPops in its queue
they wait until no compare is left, unless an exception comes of it; in exception mode they test the condition codes as they stand
(rules R304, R305, R360, R393; the waiting is log 26, exception mode log 27; that FINS is not pulsed is the model's choice, log
32). FBN counts as a conditional branch of case 6 (decision D15, log 15), and as the second member of such a couple the branch
completes with any aligned PC and nPC (U1, log 15). -/
def Obligations.FccBranches : Prop :=
  ∀ (s : State) (a : Bool) (d : BitVec 22),
    let base := match s.params.branchBase with
      | .pc => s.pc
      | .pcPlus4 => s.pc + 4#32
    let target := base + BitVec.ofInt 32 (4 * d.toInt)
    ∀ p ∈ [(Instr.fbn a d, []), (.fbne a d, [1, 2, 3]), (.fblg a d, [1, 2]), (.fbul a d, [1, 3]), (.fbl a d, [1]),
        (.fbug a d, [2, 3]), (.fbg a d, [2]), (.fbu a d, [3]), (.fba a d, [0, 1, 2, 3]), (.fbe a d, [0]), (.fbue a d, [0, 3]),
        (.fbge a d, [0, 2]), (.fbuge a d, [0, 2, 3]), (.fble a d, [0, 1]), (.fbule a d, [0, 1, 3]), (.fbo a d, [0, 1, 2])],
      s.fiparFails = false →
        (s.UnitIdle .fpu ∨ s.UnitExcepting .fpu → ∃ t, exec p.1 s = .next t ∧
          s.Branches t (p.2.contains (s.unitCc .fpu).toNat) (p.1 == .fba a d) a target) ∧
        (s.UnitReady .fpu → ∃ t, exec p.1 s = .next t ∧
          (s.UnitExcepted t .fpu ∨
            ∃ u, s.UnitWorked .fpu u (fun _ => false) ∧
              (s.setUnit .fpu u).Branches t (p.2.contains (UnitKind.ccField .fpu u.status).toNat) (p.1 == .fba a d) a target))

/-- The sixteen branches on the coprocessor's condition codes, which are two bits of the CSR (log 35): true for the values their
names list. With the coprocessor enabled and idle they act as the integer branches do; with CPops in its queue they wait until no
compare is left, unless an exception comes of it; in exception mode they test the condition codes as they stand (rules R306, R307,
R360, R393; the waiting is log 26, exception mode log 27; that CINS is not pulsed is the model's choice, log 32). CBN counts as a
conditional branch of case 6 (decision D15, log 15), and as the second member of such a couple the branch completes with any
aligned PC and nPC (U1, log 15). -/
def Obligations.CccBranches : Prop :=
  ∀ (s : State) (a : Bool) (d : BitVec 22),
    let base := match s.params.branchBase with
      | .pc => s.pc
      | .pcPlus4 => s.pc + 4#32
    let target := base + BitVec.ofInt 32 (4 * d.toInt)
    ∀ p ∈ [(Instr.cbn a d, []), (.cb123 a d, [1, 2, 3]), (.cb12 a d, [1, 2]), (.cb13 a d, [1, 3]), (.cb1 a d, [1]),
        (.cb23 a d, [2, 3]), (.cb2 a d, [2]), (.cb3 a d, [3]), (.cba a d, [0, 1, 2, 3]), (.cb0 a d, [0]), (.cb03 a d, [0, 3]),
        (.cb02 a d, [0, 2]), (.cb023 a d, [0, 2, 3]), (.cb01 a d, [0, 1]), (.cb013 a d, [0, 1, 3]), (.cb012 a d, [0, 1, 2])],
      (s.UnitIdle .cp ∨ s.UnitExcepting .cp → ∃ t, exec p.1 s = .next t ∧
        s.Branches t (p.2.contains (s.unitCc .cp).toNat) (p.1 == .cba a d) a target) ∧
      (s.UnitReady .cp → ∃ t, exec p.1 s = .next t ∧
        (s.UnitExcepted t .cp ∨
          ∃ u, s.UnitWorked .cp u (fun _ => false) ∧
            (s.setUnit .cp u).Branches t (p.2.contains (UnitKind.ccField .cp u.status).toNat) (p.1 == .cba a d) a target))

/-- CALL and JMPL jump after one more instruction and link the address of themselves; JMPL reads its operands before it
writes rd, and traps on a misaligned target (rules R291, R292, R310, R318; the base of CALL is decision D1). As the second member
of a case 6 couple they complete with any aligned PC and nPC (U1's total alternative, log 15). -/
def Obligations.CallAndJmpl : Prop :=
  ∀ (s : State) (disp30 : BitVec 30) (rd rs1 : RegNum) (op2 : Operand2),
    let base := match s.params.branchBase with
      | .pc => s.pc
      | .pcPlus4 => s.pc + 4#32
    let target := s.readReg rs1 + s.op2val op2
    (∃ t, exec (.call disp30) s = .next t ∧ s.Jumps t 15#5 s.pc (base + BitVec.ofNat 32 (4 * disp30.toNat))) ∧
      (target &&& 3#32 = 0#32 → ∃ t, exec (.jmpl rd rs1 op2) s = .next t ∧ s.Jumps t rd s.pc target) ∧
      (target &&& 3#32 ≠ 0#32 → ∃ t, exec (.jmpl rd rs1 op2) s = .next t ∧ State.Traps .memAddressNotAligned s t)

/-- RETT with ET = 0, S = 1, a valid window above and an aligned target returns: the window above is current, ET = 1, S is PS,
nPC is the target, and Program Flow Control skips its next check (rules R320, R448, R463). Otherwise it traps, in the order of
rule R410: with ET = 1 as an illegal instruction, else into error mode with the types of decisions D14 and D16 (log 14). As the
second member of a case 6 couple it completes with any aligned PC and nPC (U1's total alternative, log 15). -/
def Obligations.RettResult : Prop :=
  ∀ (s : State) (rs1 : RegNum) (op2 : Operand2),
    let target := s.readReg rs1 + s.op2val op2
    let invalid := s.wim.getLsbD (s.psr.cwp + 1#3).toNat
    (s.psr.et = false → s.psr.s = true → invalid = false → target &&& 3#32 = 0#32 →
      ∃ t, exec (.rett rs1 op2) s = .next t ∧
        State.Jumps
          { s with
            psr := { s.psr with cwp := s.psr.cwp + 1#3, et := true, s := s.psr.ps }
            pfcSkip := s.pfcSkip || s.params.flowEnabled }
          t 0#5 0#32 target) ∧
    (s.psr.et = true → ∃ t, exec (.rett rs1 op2) s = .next t ∧ State.Traps .illegalInstruction s t) ∧
    (s.psr.et = false →
      (s.psr.s = false → ∃ t, exec (.rett rs1 op2) s = .next t ∧ State.Traps .privilegedInstruction s t ∧ t.mode = .error) ∧
      (s.psr.s = true → invalid = true →
        ∃ t, exec (.rett rs1 op2) s = .next t ∧ State.Traps .windowUnderflow s t ∧ t.mode = .error) ∧
      (s.psr.s = true → invalid = false → target &&& 3#32 ≠ 0#32 →
        ∃ t, exec (.rett rs1 op2) s = .next t ∧ State.Traps .memAddressNotAligned s t ∧ t.mode = .error))

/-- The sixteen Ticc: with the condition true the trap whose type is 128 plus the low seven bits of the sum, not delayed; with
it false nothing but the advance (rules R145, R325; the formulas of rule R301 are general knowledge, log 29). -/
def Obligations.TiccResults : Prop :=
  ∀ (s : State) (rs1 : RegNum) (op2 : Operand2),
    let f := s.psr.icc
    ∀ p ∈ [(Instr.tn rs1 op2, false), (.te rs1 op2, f.z), (.tle rs1 op2, f.z || (f.n != f.v)), (.tl rs1 op2, f.n != f.v),
        (.tleu rs1 op2, f.c || f.z), (.tcs rs1 op2, f.c), (.tneg rs1 op2, f.n), (.tvs rs1 op2, f.v), (.ta rs1 op2, true),
        (.tne rs1 op2, !f.z), (.tg rs1 op2, !f.z && (f.n == f.v)), (.tge rs1 op2, f.n == f.v),
        (.tgu rs1 op2, !f.c && !f.z), (.tcc rs1 op2, !f.c), (.tpos rs1 op2, !f.n), (.tvc rs1 op2, !f.v)],
      ∃ t, exec p.1 s = .next t ∧
        if p.2 then
          State.Traps (.trapInstruction ((s.readReg rs1 + s.op2val op2).extractLsb' 0 7)) s t ∧
            t.tt.toNat = 128 + (s.readReg rs1 + s.op2val op2).toNat % 128
        else s.Computes t 0#5 0#32 s.psr s.y []

/-! ### Control registers -/

/-- RDY, and in supervisor mode RDPSR, RDWIM, RDTBR, write the register to rd, unimplemented bits as zeros (rules R339 to
R343; that PSR[19:14] read as 0 is decision D8). -/
def Obligations.ReadControl : Prop :=
  ∀ (s : State) (rd : RegNum),
    (∃ t, exec (.rdy rd) s = .next t ∧ s.Computes t rd s.y s.psr s.y []) ∧
      (s.psr.s = true →
        (∃ t v, exec (.rdpsr rd) s = .next t ∧ s.Computes t rd v s.psr s.y [] ∧ v.extractLsb' 28 4 = s.params.impl ∧
          v.extractLsb' 24 4 = s.params.ver ∧
          ([23, 22, 21, 20].map v.getLsbD = [s.psr.icc.n, s.psr.icc.z, s.psr.icc.v, s.psr.icc.c]) ∧
          v.extractLsb' 14 6 = 0#6 ∧ v.getLsbD 13 = s.psr.ec ∧ v.getLsbD 12 = s.psr.ef ∧ v.extractLsb' 8 4 = s.psr.pil ∧
          v.getLsbD 7 = true ∧ v.getLsbD 6 = s.psr.ps ∧ v.getLsbD 5 = s.psr.et ∧ v.extractLsb' 0 5 = 0#2 ++ s.psr.cwp) ∧
        (∃ t, exec (.rdwim rd) s = .next t ∧ s.Computes t rd (BitVec.ofNat 32 s.wim.toNat) s.psr s.y []) ∧
        ∃ t, exec (.rdtbr rd) s = .next t ∧
          s.Computes t rd (BitVec.ofNat 32 (s.tba.toNat * 2 ^ 12 + s.tt.toNat * 2 ^ 4)) s.psr s.y [])

/-- WRY, and in supervisor mode WRWIM and WRTBR, write the exclusive or of the operands (general knowledge, log 29), at once
(decision D17): Y whole, eight bits of WIM, the base field of TBR, and the register's parity; nothing else changes (rules R344,
R345, R348, R349, R450). -/
def Obligations.WriteControl : Prop :=
  ∀ (s : State) (rs1 : RegNum) (op2 : Operand2),
    let v := s.readReg rs1 ^^^ s.op2val op2
    (∃ t, exec (.wry rs1 op2) s = .next t ∧ (s.wroteControl .y).Computes t 0#5 0#32 s.psr v []) ∧
      (s.psr.s = true →
        (∃ t, exec (.wrwim rs1 op2) s = .next t ∧
          State.Computes { s.wroteControl .wim with wim := BitVec.ofNat 8 v.toNat } t 0#5 0#32 s.psr s.y []) ∧
        ∃ t, exec (.wrtbr rs1 op2) s = .next t ∧
          State.Computes { s.wroteControl .tbr with tba := BitVec.ofNat 20 (v.toNat / 2 ^ 12) } t 0#5 0#32 s.psr s.y [])

/-- WRPSR in supervisor mode with a CWP that names a window writes the fields of the PSR, and its parity, the hardwired and reserved
bits staying (rules R346, R450; that PSR[19:14] stay is decision D8, log 9). The written value is the exclusive or of rule R344
(general knowledge, log 29), and it is written at once (decision D17, log 16). With any other CWP it traps whatever the mode
(decision D18, log 17). -/
def Obligations.WritePsr : Prop :=
  ∀ (s : State) (rs1 : RegNum) (op2 : Operand2),
    let v := s.readReg rs1 ^^^ s.op2val op2
    (v.toNat % 32 < 8 → s.psr.s = true →
      ∃ t p, exec (.wrpsr rs1 op2) s = .next t ∧ (s.wroteControl .psr).Computes t 0#5 0#32 p s.y [] ∧
        [p.icc.n, p.icc.z, p.icc.v, p.icc.c, p.ec, p.ef, p.s, p.ps, p.et] = [23, 22, 21, 20, 13, 12, 7, 6, 5].map v.getLsbD ∧
        p.pil = v.extractLsb' 8 4 ∧ p.cwp.toNat = v.toNat % 32 ∧
        t.psrWord = s.params.impl ++ s.params.ver ++ v.extractLsb' 20 4 ++ 0#6 ++ v.extractLsb' 0 14) ∧
    (8 ≤ v.toNat % 32 → ∃ t, exec (.wrpsr rs1 op2) s = .next t ∧ State.Traps .illegalInstruction s t)

/-! ### The FPU and the coprocessor -/

/-- FPop1, FPop2, CPop1 and CPop2, whatever opf or opc: with the unit enabled and idle the word and its address join its queue
and one of the two start signals pulses; no register of the IU changes. With instructions in the queue the launch waits for those
it depends on, unless an exception comes of it; in exception mode, where the unit executes only queue stores, the word is dropped
(rules R360, R363 to R365, R373, R374, R394; which start signal, and the waiting, are log 26, the dropping is log 27). FMOVs to
FxTOi are FPop1, the compares FPop2 (rules R150, R151). -/
def Obligations.OperateLaunches : Prop :=
  ∀ (s : State) (i : Instr) (kind : UnitKind), i.wellFormed = true → fieldOp (encode i) = 2#2 →
    kind.ownsWord (encode i) = true →
    let ends (t : State) : Prop :=
      s.OnlyUnit t kind ∧ s.SameMemory t ∧ t.bus = s.bus ∧ ∃ b, t.signals = s.signals ++ [kind.startSignal b]
    (s.UnitIdle kind → ∃ t, exec i s = .next t ∧ ends t ∧
      t.unit kind = { s.unit kind with queue := [(s.pc, encode i)] }) ∧
    (s.UnitReady kind → ∃ t, exec i s = .next t ∧
      (s.UnitExcepted t kind ∨
        ends t ∧ ∃ u, s.UnitWorked kind u (kind.depends (encode i)) ∧
          t.unit kind = { u with queue := u.queue ++ [(s.pc, encode i)] })) ∧
    (s.UnitExcepting kind → ∃ t, exec i s = .next t ∧ ends t ∧ t.unit kind = s.unit kind)

/-- Every instruction of a unit that is disabled or absent traps, in user and supervisor mode: fp_disabled or cp_disabled (rules
R361, R362, R397). The queue stores check the privilege first (rule R396), so for them this is said in supervisor mode. -/
def Obligations.DisabledUnitTraps : Prop :=
  ∀ (s : State) (i : Instr), ∀ p ∈ [(UnitKind.fpu, Trap.fpDisabled), (.cp, .cpDisabled)],
    p.1.ownsWord (encode i) = true → s.unitEnabled p.1 = false →
    (s.psr.s = true ∨ ∀ rd rs1 op2, i ≠ .stdfq rd rs1 op2 ∧ i ≠ .stdcq rd rs1 op2) →
    ∃ t, exec i s = .next t ∧ State.Traps p.2 s t ∧ s.SameUnits t

/-- With FIPAR wrong and checked an FBfcc traps as disabled, whether the FPU is enabled and whether an exception is pending (rule
R453). With an exception pending every instruction of an enabled unit traps, and the unit enters exception mode: the operate
instructions, the branches and the aligned memory forms (a misaligned one traps for that first) (rules R363, R396, R397). -/
def Obligations.PendingExceptionTraps : Prop :=
  (∀ (s : State) (i : Instr), s.fiparFails = true → fpWord (encode i) = true → fieldOp (encode i) = 0#2 →
    ∃ t, exec i s = .next t ∧ State.Traps .fpDisabled s t ∧ s.SameUnits t) ∧
  ∀ (s : State) (rd rs1 : RegNum) (op2 : Operand2),
    let ea := s.readReg rs1 + s.op2val op2
    ∀ p ∈ [(UnitKind.fpu, Trap.fpException, [Instr.ldf rd rs1 op2, .ldfsr rd rs1 op2, .stf rd rs1 op2, .stfsr rd rs1 op2],
          [Instr.lddf rd rs1 op2, .stdf rd rs1 op2], Instr.stdfq rd rs1 op2),
        (.cp, .cpException, [.ldc rd rs1 op2, .ldcsr rd rs1 op2, .stc rd rs1 op2, .stcsr rd rs1 op2],
          [.lddc rd rs1 op2, .stdc rd rs1 op2], .stdcq rd rs1 op2)],
      s.unitEnabled p.1 = true → (s.unit p.1).excPending = true →
      let excepts (i : Instr) : Prop :=
        ∃ t, exec i s = .next t ∧ State.Traps p.2.1 s t ∧
          t.unit p.1 = { s.unit p.1 with excPending := false, excMode := true }
      (∀ i : Instr, p.1.ownsWord (encode i) = true → fieldOp (encode i) = 2#2 → excepts i) ∧
        (∀ i : Instr, p.1.ownsWord (encode i) = true → fieldOp (encode i) = 0#2 → (p.1 = .fpu → s.fiparFails = false) →
          excepts i) ∧
        (ea &&& 3#32 = 0#32 → ∀ i ∈ p.2.2.1, excepts i) ∧
        (ea &&& 7#32 = 0#32 → (∀ i ∈ p.2.2.2.1, excepts i) ∧ (s.psr.s = true → excepts p.2.2.2.2))

/-- The loads of an enabled unit from an aligned address: one word into a register or the status register, the condition codes in
it, a doubleword into an even-odd pair. From an address that answers: of an idle unit at once; with instructions in the queue once
those are finished that write a register the load touches, for the status register all, unless an exception comes of it; in
exception mode the unit ignores the word (rules R363, R366 to R368, R376 to R378, R394; logs 26, 27; that FINS and CINS are not
pulsed is the model's choice, log 32). Refused, the load of a unit that is idle or in exception mode traps and changes nothing
(rule R100); a doubleword whose second word is refused leaves the even register anything (U6, log 19). -/
def Obligations.UnitLoads : Prop :=
  ∀ (s : State) (rd rs1 : RegNum) (op2 : Operand2),
    let ea := s.readReg rs1 + s.op2val op2
    let even := rd &&& 0b11110#5
    let one := s.readRequest s.dataAsi ea 0b10#2 false false
    let first := s.readRequest s.dataAsi ea 0b11#2 false true
    let second := s.readRequest s.dataAsi (ea + 4#32) 0b11#2 false false
    let v := s.readWord s.dataAsi ea
    let v' := s.readWord s.dataAsi (ea + 4#32)
    ∀ p ∈ [(UnitKind.fpu, Instr.ldf rd rs1 op2, Instr.lddf rd rs1 op2, Instr.ldfsr rd rs1 op2),
        (.cp, .ldc rd rs1 op2, .lddc rd rs1 op2, .ldcsr rd rs1 op2)],
      ∀ q ∈ [(p.2.1, 3#32, [one], p.1.computes (regMask rd), fun (u : Coproc) => u.writeReg rd v),
          (p.2.2.2, 3#32, [one], fun _ => true, fun u => { u with status := v }),
          (p.2.2.1, 7#32, [first, second], p.1.computes (pairMask rd), fun u => (u.writeReg even v).writeReg (even + 1#5) v')],
        let ends (t : State) : Prop := s.OnlyUnit t p.1 ∧ s.SameMemory t ∧ s.BusGrows t q.2.2.1
        ea &&& q.2.1 = 0#32 →
        ((∀ r ∈ q.2.2.1, s.refuses r = false) →
          (s.UnitIdle p.1 → ∃ t, exec q.1 s = .next t ∧ ends t ∧ t.unit p.1 = q.2.2.2.2 (s.unit p.1)) ∧
          (s.UnitReady p.1 → ∃ t, exec q.1 s = .next t ∧
            (s.UnitExcepted t p.1 ∨
              ends t ∧ ∃ u, s.UnitWorked p.1 u q.2.2.2.1 ∧ t.unit p.1 = q.2.2.2.2 u)) ∧
          (s.UnitExcepting p.1 → ∃ t, exec q.1 s = .next t ∧ ends t ∧ t.unit p.1 = s.unit p.1)) ∧
        ((s.UnitIdle p.1 ∨ s.UnitExcepting p.1) →
          (∀ r ∈ q.2.2.1.head?, s.refuses r = true →
            ∃ t, exec q.1 s = .next t ∧ State.Traps .dataAccessException s t ∧ s.SameUnits t ∧ t.bus = s.bus ++ [r]) ∧
          (q.1 = p.2.2.1 → s.refuses first = false → s.refuses second = true →
            ∃ t, exec q.1 s = .next t ∧ s.EnteredTrap t ∧ t.tt = 0x09#8 ∧ s.SameMemory t ∧ t.y = s.y ∧
              t.bus = s.bus ++ [first, second] ∧
              s.SameRegsBut t [regIndex (s.psr.cwp - 1#3) 17#5, regIndex (s.psr.cwp - 1#3) 18#5] ∧
              (∀ k, k ≠ p.1 → t.unit k = s.unit k) ∧
              ∃ x, t.unit p.1 = if (s.unit p.1).excMode then s.unit p.1 else (s.unit p.1).writeReg even x))

/-- The stores of an enabled unit to an aligned address: a register, the status register, an even-odd pair. To an address that
answers: of an idle unit at once; with instructions in the queue once those are finished that write a register the store reads,
for the status register all, unless an exception comes of it; in exception mode the unit drives words of no known value (rules
R363, R369 to R371, R379, R390, R391, R394; logs 26, 27; that FINS and CINS are not pulsed, and that LOCK is off in a single
store, is the model's choice, log 32). Refused, the store of an idle unit traps and changes no byte, a doubleword whose second
word is refused leaving the first one written (rules R100, R102). -/
def Obligations.UnitStores : Prop :=
  ∀ (s : State) (rd rs1 : RegNum) (op2 : Operand2), Memory.wf s.mem = true →
    let ea := s.readReg rs1 + s.op2val op2
    let even := rd &&& 0b11110#5
    let one (v : Word) := s.writeRequest s.dataAsi ea 0b10#2 false false v
    let first (v : Word) := s.writeRequest s.dataAsi ea 0b11#2 false true v
    let second (v : Word) := s.writeRequest s.dataAsi (ea + 4#32) 0b11#2 false false v
    let trapRegs := [regIndex (s.psr.cwp - 1#3) 17#5, regIndex (s.psr.cwp - 1#3) 18#5]
    ∀ p ∈ [(UnitKind.fpu, Instr.stf rd rs1 op2, Instr.stdf rd rs1 op2, Instr.stfsr rd rs1 op2),
        (.cp, .stc rd rs1 op2, .stdc rd rs1 op2, .stcsr rd rs1 op2)],
      (∀ q ∈ [(p.2.1, p.1.computes (regMask rd), fun (u : Coproc) => u.readReg rd), (p.2.2.2, fun _ => true, fun u => u.status)],
        let ends (t : State) (u : Coproc) (v : Word) : Prop :=
          (s.setUnit p.1 u).Moves t [] s.dataAsi ea 4 [one v] ∧ t.readWord s.dataAsi ea = v
        ea &&& 3#32 = 0#32 →
          ((∀ v, s.refuses (one v) = false) →
            (s.UnitIdle p.1 → ∃ t, exec q.1 s = .next t ∧ ends t (s.unit p.1) (q.2.2 (s.unit p.1))) ∧
            (s.UnitReady p.1 → ∃ t, exec q.1 s = .next t ∧
              (s.UnitExcepted t p.1 ∨ ∃ u, s.UnitWorked p.1 u q.2.1 ∧ ends t u (q.2.2 u))) ∧
            (s.UnitExcepting p.1 → ∃ t v, exec q.1 s = .next t ∧ ends t (s.unit p.1) v)) ∧
          (s.UnitIdle p.1 → s.refuses (one (q.2.2 (s.unit p.1))) = true →
            ∃ t, exec q.1 s = .next t ∧ State.Traps .dataAccessException s t ∧ s.SameUnits t ∧
              t.bus = s.bus ++ [one (q.2.2 (s.unit p.1))])) ∧
        (ea &&& 7#32 = 0#32 →
          let ends (t : State) (u : Coproc) (hi lo : Word) : Prop :=
            (s.setUnit p.1 u).Moves t [] s.dataAsi ea 8 [first hi, second lo] ∧ t.readWord s.dataAsi ea = hi ∧
              t.readWord s.dataAsi (ea + 4#32) = lo
          ((∀ v, s.refuses (first v) = false ∧ s.refuses (second v) = false) →
            (s.UnitIdle p.1 → ∃ t, exec p.2.2.1 s = .next t ∧
              ends t (s.unit p.1) ((s.unit p.1).readReg even) ((s.unit p.1).readReg (even + 1#5))) ∧
            (s.UnitReady p.1 → ∃ t, exec p.2.2.1 s = .next t ∧
              (s.UnitExcepted t p.1 ∨
                ∃ u, s.UnitWorked p.1 u (p.1.computes (pairMask rd)) ∧ ends t u (u.readReg even) (u.readReg (even + 1#5)))) ∧
            (s.UnitExcepting p.1 → ∃ t hi lo, exec p.2.2.1 s = .next t ∧ ends t (s.unit p.1) hi lo)) ∧
          (s.UnitIdle p.1 →
            let hi := (s.unit p.1).readReg even
            let lo := (s.unit p.1).readReg (even + 1#5)
            (s.refuses (first hi) = true →
              ∃ t, exec p.2.2.1 s = .next t ∧ State.Traps .dataAccessException s t ∧ s.SameUnits t ∧
                t.bus = s.bus ++ [first hi]) ∧
            (s.refuses (first hi) = false → s.refuses (second lo) = true →
              ∃ t, exec p.2.2.1 s = .next t ∧ s.EnteredTrap t ∧ t.tt = 0x09#8 ∧ s.SameMemoryBut t s.dataAsi ea 4 ∧
                t.readWord s.dataAsi ea = hi ∧ t.bus = s.bus ++ [first hi, second lo] ∧ s.SameUnits t ∧ t.y = s.y ∧
                s.SameRegsBut t trapRegs)))

/-- The queue stores, in supervisor mode, with the unit enabled and no exception pending: in exception mode the front entry goes to
memory, its address at the lower word (general knowledge, log 28), and leaves the queue, and exception mode ends with the queue;
outside exception mode the unit goes on with its queue, unless an exception comes of it, and the front of what is left is stored
and leaves (log 28); of an empty queue, which the spec leaves open, two words of no known value are stored (rules R363, R372,
R392). A refused first word changes no byte, a refused second one leaves the first written (rules R100, R102), in exception mode
and outside it, where the unit has gone on with its queue; that a refused store leaves the queue as it is, the entry staying at its
front, is the model's choice (log 28), and that FINS and CINS are not pulsed too (log 32). -/
def Obligations.QueueStores : Prop :=
  ∀ (s : State) (rd rs1 : RegNum) (op2 : Operand2), Memory.wf s.mem = true → s.psr.s = true →
    let ea := s.readReg rs1 + s.op2val op2
    let first (v : Word) := s.writeRequest s.dataAsi ea 0b11#2 false true v
    let second (v : Word) := s.writeRequest s.dataAsi (ea + 4#32) 0b11#2 false false v
    ea &&& 7#32 = 0#32 →
    ∀ p ∈ [(UnitKind.fpu, Instr.stdfq rd rs1 op2), (.cp, .stdcq rd rs1 op2)],
      let ends (t : State) (a w : Word) : Prop :=
        s.OnlyUnit t p.1 ∧ s.SameMemoryBut t s.dataAsi ea 8 ∧ t.readWord s.dataAsi ea = a ∧
          t.readWord s.dataAsi (ea + 4#32) = w ∧ s.BusGrows t [first a, second w]
      ((∀ v, s.refuses (first v) = false ∧ s.refuses (second v) = false) →
        (∀ a w rest, s.UnitExcepting p.1 → (s.unit p.1).queue = (a, w) :: rest →
          ∃ t, exec p.2 s = .next t ∧ ends t a w ∧
            t.unit p.1 = { s.unit p.1 with queue := rest, excMode := !rest.isEmpty }) ∧
        (s.UnitReady p.1 → ∃ t, exec p.2 s = .next t ∧
          (s.UnitExcepted t p.1 ∨
            ∃ u, s.UnitWorked p.1 u (fun _ => false) ∧
              ((∃ a w rest, u.queue = (a, w) :: rest ∧ ends t a w ∧ t.unit p.1 = { u with queue := rest }) ∨
                (u.queue = [] ∧ t.unit p.1 = u ∧ ∃ a w, ends t a w))))) ∧
      (s.UnitReady p.1 →
        ((∀ v, s.refuses (first v) = true) → ∃ t, exec p.2 s = .next t ∧
          (s.UnitExcepted t p.1 ∨
            ∃ u a w, s.UnitWorked p.1 u (fun _ => false) ∧ (u.queue = [] ∨ u.queue.head? = some (a, w)) ∧
              State.Traps .dataAccessException s t ∧ t.unit p.1 = u ∧ (∀ k, k ≠ p.1 → t.unit k = s.unit k) ∧
              t.bus = s.bus ++ [first a])) ∧
        ((∀ v, s.refuses (first v) = false ∧ s.refuses (second v) = true) → ∃ t, exec p.2 s = .next t ∧
          (s.UnitExcepted t p.1 ∨
            ∃ u a w, s.UnitWorked p.1 u (fun _ => false) ∧ (u.queue = [] ∨ u.queue.head? = some (a, w)) ∧
              s.EnteredTrap t ∧ t.tt = 0x09#8 ∧ s.SameMemoryBut t s.dataAsi ea 4 ∧ t.readWord s.dataAsi ea = a ∧
              t.unit p.1 = u ∧ (∀ k, k ≠ p.1 → t.unit k = s.unit k) ∧ t.bus = s.bus ++ [first a, second w] ∧ t.y = s.y ∧
              s.SameRegsBut t [regIndex (s.psr.cwp - 1#3) 17#5, regIndex (s.psr.cwp - 1#3) 18#5]))) ∧
      ∀ a w rest, s.UnitExcepting p.1 → (s.unit p.1).queue = (a, w) :: rest →
        (s.refuses (first a) = true →
          ∃ t, exec p.2 s = .next t ∧ State.Traps .dataAccessException s t ∧ s.SameUnits t ∧ t.bus = s.bus ++ [first a]) ∧
        (s.refuses (first a) = false → s.refuses (second w) = true →
          ∃ t, exec p.2 s = .next t ∧ s.EnteredTrap t ∧ t.tt = 0x09#8 ∧ s.SameMemoryBut t s.dataAsi ea 4 ∧
            t.readWord s.dataAsi ea = a ∧ t.bus = s.bus ++ [first a, second w] ∧ s.SameUnits t ∧ t.y = s.y ∧
            s.SameRegsBut t [regIndex (s.psr.cwp - 1#3) 17#5, regIndex (s.psr.cwp - 1#3) 18#5])

/-! ### Memory -/

/-- The integer loads, normal forms and alternate-space forms in supervisor mode, from an aligned address that answers: bytes
are big-endian, extended as the name says (rules R87, R180 to R184, R200, R202 to R204, R206, R207). -/
def Obligations.Loads : Prop :=
  ∀ (s : State) (rd rs1 rs2 : RegNum) (op2 : Operand2) (asi : Asi),
    let word (x : Asi) (e : Word) : Word :=
      s.readByte x e ++ s.readByte x (e + 1#32) ++ s.readByte x (e + 2#32) ++ s.readByte x (e + 3#32)
    let half (x : Asi) (e : Word) : BitVec 16 := s.readByte x e ++ s.readByte x (e + 1#32)
    let normal := (s.readReg rs1 + s.op2val op2 : Word)
    let alternate := s.readReg rs1 + s.readReg rs2
    let dataAsi : Asi := if s.psr.s then 0x0B#8 else 0x0A#8
    ∀ p ∈ [(Instr.ld rd rs1 op2, Instr.lda rd rs1 asi rs2, 0b10#2, 3#32, word),
        (.ldub rd rs1 op2, .lduba rd rs1 asi rs2, 0b00#2, 0#32, fun x e => BitVec.ofNat 32 (s.readByte x e).toNat),
        (.ldsb rd rs1 op2, .ldsba rd rs1 asi rs2, 0b00#2, 0#32, fun x e => BitVec.ofInt 32 (s.readByte x e).toInt),
        (.lduh rd rs1 op2, .lduha rd rs1 asi rs2, 0b01#2, 1#32, fun x e => BitVec.ofNat 32 (half x e).toNat),
        (.ldsh rd rs1 op2, .ldsha rd rs1 asi rs2, 0b01#2, 1#32, fun x e => BitVec.ofInt 32 (half x e).toInt)],
      (normal &&& p.2.2.2.1 = 0#32 → s.refuses (s.readRequest dataAsi normal p.2.2.1 false false) = false →
        ∃ t, exec p.1 s = .next t ∧
          s.Computes t rd (p.2.2.2.2 dataAsi normal) s.psr s.y [s.readRequest dataAsi normal p.2.2.1 false false]) ∧
      (s.psr.s = true → alternate &&& p.2.2.2.1 = 0#32 →
        s.refuses (s.readRequest asi alternate p.2.2.1 false false) = false →
        ∃ t, exec p.2.1 s = .next t ∧
          s.Computes t rd (p.2.2.2.2 asi alternate) s.psr s.y [s.readRequest asi alternate p.2.2.1 false false])

/-- The single stores, normal forms and alternate-space forms in supervisor mode, to an aligned address that answers: the low
byte, halfword or the word of rd, most significant byte first; a byte or halfword repeated on the bus; every other byte stays
(rules R87, R95, R190 to R192, R200, R215 to R217; that LOCK is off in the request is the model's choice, log 32). -/
def Obligations.Stores : Prop :=
  ∀ (s : State) (rd rs1 rs2 : RegNum) (op2 : Operand2) (asi : Asi), Memory.wf s.mem = true →
    let v := s.readReg rd
    let b0 := v.extractLsb' 0 8
    let b1 := v.extractLsb' 8 8
    let b2 := v.extractLsb' 16 8
    let b3 := v.extractLsb' 24 8
    let normal := (s.readReg rs1 + s.op2val op2 : Word)
    let alternate := s.readReg rs1 + s.readReg rs2
    let dataAsi : Asi := if s.psr.s then 0x0B#8 else 0x0A#8
    ∀ p ∈ [(Instr.st rd rs1 op2, Instr.sta rd rs1 asi rs2, 0b10#2, 3#32, [b3, b2, b1, b0], v),
        (.stb rd rs1 op2, .stba rd rs1 asi rs2, 0b00#2, 0#32, [b0], b0 ++ b0 ++ b0 ++ b0),
        (.sth rd rs1 op2, .stha rd rs1 asi rs2, 0b01#2, 1#32, [b1, b0], b1 ++ b0 ++ b1 ++ b0)],
      let bytes := p.2.2.2.2.1
      let request (x : Asi) (e : Word) := s.writeRequest x e p.2.2.1 false false p.2.2.2.2.2
      (normal &&& p.2.2.2.1 = 0#32 → s.refuses (request dataAsi normal) = false →
        ∃ t, exec p.1 s = .next t ∧ s.Moves t [] dataAsi normal bytes.length [request dataAsi normal] ∧
          ∀ j (h : j < bytes.length), t.readByte dataAsi (normal + BitVec.ofNat 32 j) = bytes[j]) ∧
      (s.psr.s = true → alternate &&& p.2.2.2.1 = 0#32 → s.refuses (request asi alternate) = false →
        ∃ t, exec p.2.1 s = .next t ∧ s.Moves t [] asi alternate bytes.length [request asi alternate] ∧
          ∀ j (h : j < bytes.length), t.readByte asi (alternate + BitVec.ofNat 32 j) = bytes[j])

/-- LDD and LDDA load an even-odd pair, rd forced even, r[0] staying 0; if the second word is refused they trap, the odd
register unchanged and the even one anything (rules R93, R100, R186, R205; the even register then is U6, log 19). -/
def Obligations.DoubleLoads : Prop :=
  ∀ (s : State) (rd rs1 rs2 : RegNum) (op2 : Operand2) (asi : Asi),
    let even := rd &&& 0b11110#5
    let odd := even + 1#5
    ∀ p ∈ [(Instr.ldd rd rs1 op2, if s.psr.s then 0x0B#8 else 0x0A#8, s.readReg rs1 + s.op2val op2),
        (.ldda rd rs1 asi rs2, asi, s.readReg rs1 + s.readReg rs2)],
      let space : Asi := p.2.1
      let ea : Word := p.2.2
      let first := s.readRequest space ea 0b11#2 false true
      let second := s.readRequest space (ea + 4#32) 0b11#2 false false
      ea &&& 7#32 = 0#32 → (p.1 = .ldd rd rs1 op2 ∨ s.psr.s = true) → s.refuses first = false →
        (s.refuses second = false →
          ∃ t, exec p.1 s = .next t ∧
            s.Moves t [regIndex s.psr.cwp even, regIndex s.psr.cwp odd] space ea 0 [first, second] ∧
            t.readReg even = (if even = 0#5 then 0#32 else s.readWord space ea) ∧
            t.readReg odd = s.readWord space (ea + 4#32)) ∧
        (s.refuses second = true →
          ∃ t, exec p.1 s = .next t ∧ s.EnteredTrap t ∧ t.tt = 0x09#8 ∧ s.SameMemory t ∧
            t.bus = s.bus ++ [first, second] ∧ s.SameUnits t ∧ t.y = s.y ∧
            s.SameRegsBut t [regIndex s.psr.cwp even, regIndex (s.psr.cwp - 1#3) 17#5, regIndex (s.psr.cwp - 1#3) 18#5])

/-- STD and STDA store an even-odd pair, the even register at the lower address; if the second word is refused they trap and
the first one is written, no register but r[17] and r[18] of the trap's window changing (rules R93, R102, R193, R218; that an odd
rd names the pair too is decision D13, log 13). -/
def Obligations.DoubleStores : Prop :=
  ∀ (s : State) (rd rs1 rs2 : RegNum) (op2 : Operand2) (asi : Asi), Memory.wf s.mem = true →
    let hi := s.readReg (rd &&& 0b11110#5)
    let lo := s.readReg ((rd &&& 0b11110#5) + 1#5)
    ∀ p ∈ [(Instr.std rd rs1 op2, if s.psr.s then 0x0B#8 else 0x0A#8, s.readReg rs1 + s.op2val op2),
        (.stda rd rs1 asi rs2, asi, s.readReg rs1 + s.readReg rs2)],
      let space : Asi := p.2.1
      let ea : Word := p.2.2
      let first := s.writeRequest space ea 0b11#2 false true hi
      let second := s.writeRequest space (ea + 4#32) 0b11#2 false false lo
      ea &&& 7#32 = 0#32 → (p.1 = .std rd rs1 op2 ∨ s.psr.s = true) → s.refuses first = false →
        (s.refuses second = false →
          ∃ t, exec p.1 s = .next t ∧ s.Moves t [] space ea 8 [first, second] ∧ t.readWord space ea = hi ∧
            t.readWord space (ea + 4#32) = lo) ∧
        (s.refuses second = true →
          ∃ t, exec p.1 s = .next t ∧ s.EnteredTrap t ∧ t.tt = 0x09#8 ∧ s.SameMemoryBut t space ea 4 ∧
            t.readWord space ea = hi ∧ t.bus = s.bus ++ [first, second] ∧ s.SameUnits t ∧ t.y = s.y ∧
            s.SameRegsBut t [regIndex (s.psr.cwp - 1#3) 17#5, regIndex (s.psr.cwp - 1#3) 18#5])

/-- LDSTUB and SWAP, normal forms and alternate-space forms in supervisor mode: one locked read and one write of the same
place; rd takes what memory held, memory all ones or what rd held (rules R91, R112, R210 to R214). -/
def Obligations.Atomics : Prop :=
  ∀ (s : State) (rd rs1 rs2 : RegNum) (op2 : Operand2) (asi : Asi), Memory.wf s.mem = true →
    let v := s.readReg rd
    let dataAsi : Asi := if s.psr.s then 0x0B#8 else 0x0A#8
    let normal := (s.readReg rs1 + s.op2val op2 : Word)
    let alternate := s.readReg rs1 + s.readReg rs2
    ∀ p ∈ [(Instr.ldstub rd rs1 op2, dataAsi, normal, false, true), (.ldstuba rd rs1 asi rs2, asi, alternate, true, true),
        (.swap rd rs1 op2, dataAsi, normal, false, false), (.swapa rd rs1 asi rs2, asi, alternate, true, false)],
      let space := p.2.1
      let ea := p.2.2.1
      let byte := p.2.2.2.2
      let size := if byte then 0b00#2 else 0b10#2
      let old := if byte then BitVec.ofNat 32 (s.readByte space ea).toNat else s.readWord space ea
      let read := s.readRequest space ea size true true
      let write := s.writeRequest space ea size true false (if byte then 0xFFFFFFFF#32 else v)
      (p.2.2.2.1 = true → s.psr.s = true) → (byte = true ∨ ea &&& 3#32 = 0#32) → s.refuses read = false →
        s.refuses write = false →
        ∃ t, exec p.1 s = .next t ∧
          s.Moves t [regIndex s.psr.cwp rd] space ea (if byte then 1 else 4) [read, write] ∧
          t.readReg rd = (if rd = 0#5 then 0#32 else old) ∧
          (if byte then t.readByte space ea = 0xFF#8 else t.readWord space ea = v)

/-! ### The rest -/

/-- UNIMP always traps, the zero word among its words; IFLUSH traps when IFT is LOW and else does nothing but advance (rules
R380, R381). -/
def Obligations.UnimpIflush : Prop :=
  ∀ (s : State) (c : BitVec 22) (rs1 : RegNum) (op2 : Operand2),
    (∃ t, exec (.unimp c) s = .next t ∧ State.Traps .illegalInstruction s t) ∧ decodeWord 0#32 = .ok (.unimp 0#22) ∧
      (s.params.iftAsserted = true → ∃ t, exec (.iflush rs1 op2) s = .next t ∧ State.Traps .illegalInstruction s t) ∧
      (s.params.iftAsserted = false → ∃ t, exec (.iflush rs1 op2) s = .next t ∧ s.Computes t 0#5 0#32 s.psr s.y [])

/-! ### Parity -/

/-- The parity of the registers (rules R450, R457, R510): a write of a register makes its parity right; a machine without upsets
keeps wrong parity bits only on registers that nothing has written since power-up, so that an instruction that reads none of
those takes no parity trap (rule R450's exception); an upset flips one bit of one register and makes its parity wrong, or right
again. Which registers an instruction reads is DEDUCED, and that traps, RETT, SAVE, RESTORE and flags leave the parity flags of
PSR and TBR alone is the model's choice (log 24). -/
def Obligations.ParityOfRegisters : Prop :=
  (∀ s t : State, s.ParityFaultFree → step s = .next t → t.ParityFaultFree) ∧
    (∀ (s : State) (w : Word), s.ParityFaultFree → s.readsUnwritten w = false → s.sourceError w = none) ∧
    (∀ (s : State) (w : Window) (n : RegNum) (v : Word), n ≠ 0#5 →
      (s.writeRegIn w n v).regParity.bad.getLsbD (regIndex w n) = false ∧
        (s.writeRegIn w n v).regParity.unwritten.getLsbD (regIndex w n) = false) ∧
    (∀ (s : State) (r : ControlReg),
      (s.wroteControl r).controlParity.bad.getLsbD r.index = false ∧
        (s.wroteControl r).controlParity.unwritten.getLsbD r.index = false ∧
        s.controlParity.SameBut (s.wroteControl r).controlParity [r.index]) ∧
    ∀ (s : State) (w : Window) (n : RegNum) (b : BitVec 5), n ≠ 0#5 →
      let t := s.upsetReg (regIndex w n) b
      t.readRegIn w n = s.readRegIn w n ^^^ (1#32 <<< b.toNat) ∧
        t.regParity.bad.getLsbD (regIndex w n) = !s.regParity.bad.getLsbD (regIndex w n) ∧
        s.SameRegsBut t [regIndex w n] ∧
        t = { s with globals := t.globals, windows := t.windows, regParity := t.regParity }
end

