-- ==== Sys2Proof/Laws/State.lean ====
section
/-! SUPPORT. One lemma per field per update of the state, true by rfl, so that no proof unfolds a record update. -/

namespace Sys2Proof.Machine

variable (s : State)

/-! ### setIcc -/

@[simp] theorem State.setIcc_params (f : Icc) : (s.setIcc f).params = s.params := rfl
@[simp] theorem State.setIcc_mode (f : Icc) : (s.setIcc f).mode = s.mode := rfl
@[simp] theorem State.setIcc_pc (f : Icc) : (s.setIcc f).pc = s.pc := rfl
@[simp] theorem State.setIcc_npc (f : Icc) : (s.setIcc f).npc = s.npc := rfl
@[simp] theorem State.setIcc_annul (f : Icc) : (s.setIcc f).annul = s.annul := rfl
@[simp] theorem State.setIcc_afterCondBranch (f : Icc) : (s.setIcc f).afterCondBranch = s.afterCondBranch := rfl
@[simp] theorem State.setIcc_psr (f : Icc) : (s.setIcc f).psr = { s.psr with icc := f } := rfl
@[simp] theorem State.setIcc_wim (f : Icc) : (s.setIcc f).wim = s.wim := rfl
@[simp] theorem State.setIcc_tba (f : Icc) : (s.setIcc f).tba = s.tba := rfl
@[simp] theorem State.setIcc_tt (f : Icc) : (s.setIcc f).tt = s.tt := rfl
@[simp] theorem State.setIcc_y (f : Icc) : (s.setIcc f).y = s.y := rfl
@[simp] theorem State.setIcc_globals (f : Icc) : (s.setIcc f).globals = s.globals := rfl
@[simp] theorem State.setIcc_windows (f : Icc) : (s.setIcc f).windows = s.windows := rfl
@[simp] theorem State.setIcc_checksum (f : Icc) : (s.setIcc f).checksum = s.checksum := rfl
@[simp] theorem State.setIcc_pfcSkip (f : Icc) : (s.setIcc f).pfcSkip = s.pfcSkip := rfl
@[simp] theorem State.setIcc_ir (f : Icc) : (s.setIcc f).ir = s.ir := rfl
@[simp] theorem State.setIcc_regParity (f : Icc) : (s.setIcc f).regParity = s.regParity := rfl
@[simp] theorem State.setIcc_controlParity (f : Icc) : (s.setIcc f).controlParity = s.controlParity := rfl
@[simp] theorem State.setIcc_hwerror (f : Icc) : (s.setIcc f).hwerror = s.hwerror := rfl
@[simp] theorem State.setIcc_fpu (f : Icc) : (s.setIcc f).fpu = s.fpu := rfl
@[simp] theorem State.setIcc_cp (f : Icc) : (s.setIcc f).cp = s.cp := rfl
@[simp] theorem State.setIcc_mem (f : Icc) : (s.setIcc f).mem = s.mem := rfl
@[simp] theorem State.setIcc_platform (f : Icc) : (s.setIcc f).platform = s.platform := rfl
@[simp] theorem State.setIcc_storeUndo1 (f : Icc) : (s.setIcc f).storeUndo1 = s.storeUndo1 := rfl
@[simp] theorem State.setIcc_storeUndo2 (f : Icc) : (s.setIcc f).storeUndo2 = s.storeUndo2 := rfl
@[simp] theorem State.setIcc_inputs (f : Icc) : (s.setIcc f).inputs = s.inputs := rfl
@[simp] theorem State.setIcc_bus (f : Icc) : (s.setIcc f).bus = s.bus := rfl
@[simp] theorem State.setIcc_signals (f : Icc) : (s.setIcc f).signals = s.signals := rfl
@[simp] theorem State.setIcc_freeIdx (f : Icc) : (s.setIcc f).freeIdx = s.freeIdx := rfl

/-! ### setCwp -/

@[simp] theorem State.setCwp_params (w : Window) : (s.setCwp w).params = s.params := rfl
@[simp] theorem State.setCwp_mode (w : Window) : (s.setCwp w).mode = s.mode := rfl
@[simp] theorem State.setCwp_pc (w : Window) : (s.setCwp w).pc = s.pc := rfl
@[simp] theorem State.setCwp_npc (w : Window) : (s.setCwp w).npc = s.npc := rfl
@[simp] theorem State.setCwp_annul (w : Window) : (s.setCwp w).annul = s.annul := rfl
@[simp] theorem State.setCwp_afterCondBranch (w : Window) : (s.setCwp w).afterCondBranch = s.afterCondBranch := rfl
@[simp] theorem State.setCwp_psr (w : Window) : (s.setCwp w).psr = { s.psr with cwp := w } := rfl
@[simp] theorem State.setCwp_wim (w : Window) : (s.setCwp w).wim = s.wim := rfl
@[simp] theorem State.setCwp_tba (w : Window) : (s.setCwp w).tba = s.tba := rfl
@[simp] theorem State.setCwp_tt (w : Window) : (s.setCwp w).tt = s.tt := rfl
@[simp] theorem State.setCwp_y (w : Window) : (s.setCwp w).y = s.y := rfl
@[simp] theorem State.setCwp_globals (w : Window) : (s.setCwp w).globals = s.globals := rfl
@[simp] theorem State.setCwp_windows (w : Window) : (s.setCwp w).windows = s.windows := rfl
@[simp] theorem State.setCwp_checksum (w : Window) : (s.setCwp w).checksum = s.checksum := rfl
@[simp] theorem State.setCwp_pfcSkip (w : Window) : (s.setCwp w).pfcSkip = s.pfcSkip := rfl
@[simp] theorem State.setCwp_ir (w : Window) : (s.setCwp w).ir = s.ir := rfl
@[simp] theorem State.setCwp_regParity (w : Window) : (s.setCwp w).regParity = s.regParity := rfl
@[simp] theorem State.setCwp_controlParity (w : Window) : (s.setCwp w).controlParity = s.controlParity := rfl
@[simp] theorem State.setCwp_hwerror (w : Window) : (s.setCwp w).hwerror = s.hwerror := rfl
@[simp] theorem State.setCwp_fpu (w : Window) : (s.setCwp w).fpu = s.fpu := rfl
@[simp] theorem State.setCwp_cp (w : Window) : (s.setCwp w).cp = s.cp := rfl
@[simp] theorem State.setCwp_mem (w : Window) : (s.setCwp w).mem = s.mem := rfl
@[simp] theorem State.setCwp_platform (w : Window) : (s.setCwp w).platform = s.platform := rfl
@[simp] theorem State.setCwp_storeUndo1 (w : Window) : (s.setCwp w).storeUndo1 = s.storeUndo1 := rfl
@[simp] theorem State.setCwp_storeUndo2 (w : Window) : (s.setCwp w).storeUndo2 = s.storeUndo2 := rfl
@[simp] theorem State.setCwp_inputs (w : Window) : (s.setCwp w).inputs = s.inputs := rfl
@[simp] theorem State.setCwp_bus (w : Window) : (s.setCwp w).bus = s.bus := rfl
@[simp] theorem State.setCwp_signals (w : Window) : (s.setCwp w).signals = s.signals := rfl
@[simp] theorem State.setCwp_freeIdx (w : Window) : (s.setCwp w).freeIdx = s.freeIdx := rfl

/-! ### useFree -/

@[simp] theorem State.useFree_params (k : Nat) : (s.useFree k).params = s.params := rfl
@[simp] theorem State.useFree_mode (k : Nat) : (s.useFree k).mode = s.mode := rfl
@[simp] theorem State.useFree_pc (k : Nat) : (s.useFree k).pc = s.pc := rfl
@[simp] theorem State.useFree_npc (k : Nat) : (s.useFree k).npc = s.npc := rfl
@[simp] theorem State.useFree_annul (k : Nat) : (s.useFree k).annul = s.annul := rfl
@[simp] theorem State.useFree_afterCondBranch (k : Nat) : (s.useFree k).afterCondBranch = s.afterCondBranch := rfl
@[simp] theorem State.useFree_psr (k : Nat) : (s.useFree k).psr = s.psr := rfl
@[simp] theorem State.useFree_wim (k : Nat) : (s.useFree k).wim = s.wim := rfl
@[simp] theorem State.useFree_tba (k : Nat) : (s.useFree k).tba = s.tba := rfl
@[simp] theorem State.useFree_tt (k : Nat) : (s.useFree k).tt = s.tt := rfl
@[simp] theorem State.useFree_y (k : Nat) : (s.useFree k).y = s.y := rfl
@[simp] theorem State.useFree_globals (k : Nat) : (s.useFree k).globals = s.globals := rfl
@[simp] theorem State.useFree_windows (k : Nat) : (s.useFree k).windows = s.windows := rfl
@[simp] theorem State.useFree_checksum (k : Nat) : (s.useFree k).checksum = s.checksum := rfl
@[simp] theorem State.useFree_pfcSkip (k : Nat) : (s.useFree k).pfcSkip = s.pfcSkip := rfl
@[simp] theorem State.useFree_ir (k : Nat) : (s.useFree k).ir = s.ir := rfl
@[simp] theorem State.useFree_regParity (k : Nat) : (s.useFree k).regParity = s.regParity := rfl
@[simp] theorem State.useFree_controlParity (k : Nat) : (s.useFree k).controlParity = s.controlParity := rfl
@[simp] theorem State.useFree_hwerror (k : Nat) : (s.useFree k).hwerror = s.hwerror := rfl
@[simp] theorem State.useFree_fpu (k : Nat) : (s.useFree k).fpu = s.fpu := rfl
@[simp] theorem State.useFree_cp (k : Nat) : (s.useFree k).cp = s.cp := rfl
@[simp] theorem State.useFree_mem (k : Nat) : (s.useFree k).mem = s.mem := rfl
@[simp] theorem State.useFree_platform (k : Nat) : (s.useFree k).platform = s.platform := rfl
@[simp] theorem State.useFree_storeUndo1 (k : Nat) : (s.useFree k).storeUndo1 = s.storeUndo1 := rfl
@[simp] theorem State.useFree_storeUndo2 (k : Nat) : (s.useFree k).storeUndo2 = s.storeUndo2 := rfl
@[simp] theorem State.useFree_inputs (k : Nat) : (s.useFree k).inputs = s.inputs := rfl
@[simp] theorem State.useFree_bus (k : Nat) : (s.useFree k).bus = s.bus := rfl
@[simp] theorem State.useFree_signals (k : Nat) : (s.useFree k).signals = s.signals := rfl
@[simp] theorem State.useFree_freeIdx (k : Nat) : (s.useFree k).freeIdx = s.freeIdx + k := rfl

/-! ### retire -/

@[simp] theorem State.retire_params : s.retire.params = s.params := rfl
@[simp] theorem State.retire_mode : s.retire.mode = s.mode := rfl
@[simp] theorem State.retire_pc : s.retire.pc = s.pc := rfl
@[simp] theorem State.retire_npc : s.retire.npc = s.npc := rfl
@[simp] theorem State.retire_annul : s.retire.annul = s.annul := rfl
@[simp] theorem State.retire_afterCondBranch : s.retire.afterCondBranch = false := rfl
@[simp] theorem State.retire_psr : s.retire.psr = s.psr := rfl
@[simp] theorem State.retire_wim : s.retire.wim = s.wim := rfl
@[simp] theorem State.retire_tba : s.retire.tba = s.tba := rfl
@[simp] theorem State.retire_tt : s.retire.tt = s.tt := rfl
@[simp] theorem State.retire_y : s.retire.y = s.y := rfl
@[simp] theorem State.retire_globals : s.retire.globals = s.globals := rfl
@[simp] theorem State.retire_windows : s.retire.windows = s.windows := rfl
@[simp] theorem State.retire_checksum : s.retire.checksum = s.checksumWith s.ir := rfl
@[simp] theorem State.retire_pfcSkip : s.retire.pfcSkip = s.pfcSkip := rfl
@[simp] theorem State.retire_ir : s.retire.ir = s.ir := rfl
@[simp] theorem State.retire_regParity : s.retire.regParity = s.regParity := rfl
@[simp] theorem State.retire_controlParity : s.retire.controlParity = s.controlParity := rfl
@[simp] theorem State.retire_hwerror : s.retire.hwerror = s.hwerror := rfl
@[simp] theorem State.retire_fpu : s.retire.fpu = s.fpu := rfl
@[simp] theorem State.retire_cp : s.retire.cp = s.cp := rfl
@[simp] theorem State.retire_mem : s.retire.mem = s.mem := rfl
@[simp] theorem State.retire_platform : s.retire.platform = s.platform := rfl
@[simp] theorem State.retire_storeUndo1 : s.retire.storeUndo1 = s.storeUndo1 := rfl
@[simp] theorem State.retire_storeUndo2 : s.retire.storeUndo2 = s.storeUndo2 := rfl
@[simp] theorem State.retire_inputs : s.retire.inputs = s.inputs := rfl
@[simp] theorem State.retire_bus : s.retire.bus = s.bus := rfl
@[simp] theorem State.retire_signals : s.retire.signals = s.signals := rfl
@[simp] theorem State.retire_freeIdx : s.retire.freeIdx = s.freeIdx := rfl

/-! ### advance -/

@[simp] theorem State.advance_params : s.advance.params = s.params := rfl
@[simp] theorem State.advance_mode : s.advance.mode = s.mode := rfl
@[simp] theorem State.advance_pc : s.advance.pc = s.npc := rfl
@[simp] theorem State.advance_npc : s.advance.npc = s.npc + 4#32 := rfl
@[simp] theorem State.advance_annul : s.advance.annul = s.annul := rfl
@[simp] theorem State.advance_afterCondBranch : s.advance.afterCondBranch = s.afterCondBranch := rfl
@[simp] theorem State.advance_psr : s.advance.psr = s.psr := rfl
@[simp] theorem State.advance_wim : s.advance.wim = s.wim := rfl
@[simp] theorem State.advance_tba : s.advance.tba = s.tba := rfl
@[simp] theorem State.advance_tt : s.advance.tt = s.tt := rfl
@[simp] theorem State.advance_y : s.advance.y = s.y := rfl
@[simp] theorem State.advance_globals : s.advance.globals = s.globals := rfl
@[simp] theorem State.advance_windows : s.advance.windows = s.windows := rfl
@[simp] theorem State.advance_checksum : s.advance.checksum = s.checksum := rfl
@[simp] theorem State.advance_pfcSkip : s.advance.pfcSkip = s.pfcSkip := rfl
@[simp] theorem State.advance_ir : s.advance.ir = s.ir := rfl
@[simp] theorem State.advance_regParity : s.advance.regParity = s.regParity := rfl
@[simp] theorem State.advance_controlParity : s.advance.controlParity = s.controlParity := rfl
@[simp] theorem State.advance_hwerror : s.advance.hwerror = s.hwerror := rfl
@[simp] theorem State.advance_fpu : s.advance.fpu = s.fpu := rfl
@[simp] theorem State.advance_cp : s.advance.cp = s.cp := rfl
@[simp] theorem State.advance_mem : s.advance.mem = s.mem := rfl
@[simp] theorem State.advance_platform : s.advance.platform = s.platform := rfl
@[simp] theorem State.advance_storeUndo1 : s.advance.storeUndo1 = s.storeUndo1 := rfl
@[simp] theorem State.advance_storeUndo2 : s.advance.storeUndo2 = s.storeUndo2 := rfl
@[simp] theorem State.advance_inputs : s.advance.inputs = s.inputs := rfl
@[simp] theorem State.advance_bus : s.advance.bus = s.bus := rfl
@[simp] theorem State.advance_signals : s.advance.signals = s.signals := rfl
@[simp] theorem State.advance_freeIdx : s.advance.freeIdx = s.freeIdx := rfl

/-! ### wroteControl -/

@[simp] theorem State.wroteControl_params (r : ControlReg) : (s.wroteControl r).params = s.params := rfl
@[simp] theorem State.wroteControl_mode (r : ControlReg) : (s.wroteControl r).mode = s.mode := rfl
@[simp] theorem State.wroteControl_pc (r : ControlReg) : (s.wroteControl r).pc = s.pc := rfl
@[simp] theorem State.wroteControl_npc (r : ControlReg) : (s.wroteControl r).npc = s.npc := rfl
@[simp] theorem State.wroteControl_annul (r : ControlReg) : (s.wroteControl r).annul = s.annul := rfl
@[simp] theorem State.wroteControl_afterCondBranch (r : ControlReg) :
    (s.wroteControl r).afterCondBranch = s.afterCondBranch := rfl
@[simp] theorem State.wroteControl_psr (r : ControlReg) : (s.wroteControl r).psr = s.psr := rfl
@[simp] theorem State.wroteControl_wim (r : ControlReg) : (s.wroteControl r).wim = s.wim := rfl
@[simp] theorem State.wroteControl_tba (r : ControlReg) : (s.wroteControl r).tba = s.tba := rfl
@[simp] theorem State.wroteControl_tt (r : ControlReg) : (s.wroteControl r).tt = s.tt := rfl
@[simp] theorem State.wroteControl_y (r : ControlReg) : (s.wroteControl r).y = s.y := rfl
@[simp] theorem State.wroteControl_globals (r : ControlReg) : (s.wroteControl r).globals = s.globals := rfl
@[simp] theorem State.wroteControl_windows (r : ControlReg) : (s.wroteControl r).windows = s.windows := rfl
@[simp] theorem State.wroteControl_checksum (r : ControlReg) : (s.wroteControl r).checksum = s.checksum := rfl
@[simp] theorem State.wroteControl_pfcSkip (r : ControlReg) : (s.wroteControl r).pfcSkip = s.pfcSkip := rfl
@[simp] theorem State.wroteControl_ir (r : ControlReg) : (s.wroteControl r).ir = s.ir := rfl
@[simp] theorem State.wroteControl_regParity (r : ControlReg) : (s.wroteControl r).regParity = s.regParity := rfl
@[simp] theorem State.wroteControl_controlParity (r : ControlReg) :
    (s.wroteControl r).controlParity = s.controlParity.written r.index := rfl
@[simp] theorem State.wroteControl_hwerror (r : ControlReg) : (s.wroteControl r).hwerror = s.hwerror := rfl
@[simp] theorem State.wroteControl_fpu (r : ControlReg) : (s.wroteControl r).fpu = s.fpu := rfl
@[simp] theorem State.wroteControl_cp (r : ControlReg) : (s.wroteControl r).cp = s.cp := rfl
@[simp] theorem State.wroteControl_mem (r : ControlReg) : (s.wroteControl r).mem = s.mem := rfl
@[simp] theorem State.wroteControl_platform (r : ControlReg) : (s.wroteControl r).platform = s.platform := rfl
@[simp] theorem State.wroteControl_storeUndo1 (r : ControlReg) : (s.wroteControl r).storeUndo1 = s.storeUndo1 := rfl
@[simp] theorem State.wroteControl_storeUndo2 (r : ControlReg) : (s.wroteControl r).storeUndo2 = s.storeUndo2 := rfl
@[simp] theorem State.wroteControl_inputs (r : ControlReg) : (s.wroteControl r).inputs = s.inputs := rfl
@[simp] theorem State.wroteControl_bus (r : ControlReg) : (s.wroteControl r).bus = s.bus := rfl
@[simp] theorem State.wroteControl_signals (r : ControlReg) : (s.wroteControl r).signals = s.signals := rfl
@[simp] theorem State.wroteControl_freeIdx (r : ControlReg) : (s.wroteControl r).freeIdx = s.freeIdx := rfl

/-! ### writeRegIn -/

@[simp] theorem State.writeRegIn_params (w : Window) (n : RegNum) (v : Word) :
    (s.writeRegIn w n v).params = s.params := rfl
@[simp] theorem State.writeRegIn_mode (w : Window) (n : RegNum) (v : Word) : (s.writeRegIn w n v).mode = s.mode := rfl
@[simp] theorem State.writeRegIn_pc (w : Window) (n : RegNum) (v : Word) : (s.writeRegIn w n v).pc = s.pc := rfl
@[simp] theorem State.writeRegIn_npc (w : Window) (n : RegNum) (v : Word) : (s.writeRegIn w n v).npc = s.npc := rfl
@[simp] theorem State.writeRegIn_annul (w : Window) (n : RegNum) (v : Word) :
    (s.writeRegIn w n v).annul = s.annul := rfl
@[simp] theorem State.writeRegIn_afterCondBranch (w : Window) (n : RegNum) (v : Word) :
    (s.writeRegIn w n v).afterCondBranch = s.afterCondBranch := rfl
@[simp] theorem State.writeRegIn_psr (w : Window) (n : RegNum) (v : Word) : (s.writeRegIn w n v).psr = s.psr := rfl
@[simp] theorem State.writeRegIn_wim (w : Window) (n : RegNum) (v : Word) : (s.writeRegIn w n v).wim = s.wim := rfl
@[simp] theorem State.writeRegIn_tba (w : Window) (n : RegNum) (v : Word) : (s.writeRegIn w n v).tba = s.tba := rfl
@[simp] theorem State.writeRegIn_tt (w : Window) (n : RegNum) (v : Word) : (s.writeRegIn w n v).tt = s.tt := rfl
@[simp] theorem State.writeRegIn_y (w : Window) (n : RegNum) (v : Word) : (s.writeRegIn w n v).y = s.y := rfl
@[simp] theorem State.writeRegIn_checksum (w : Window) (n : RegNum) (v : Word) :
    (s.writeRegIn w n v).checksum = s.checksum := rfl
@[simp] theorem State.writeRegIn_pfcSkip (w : Window) (n : RegNum) (v : Word) :
    (s.writeRegIn w n v).pfcSkip = s.pfcSkip := rfl
@[simp] theorem State.writeRegIn_ir (w : Window) (n : RegNum) (v : Word) : (s.writeRegIn w n v).ir = s.ir := rfl
@[simp] theorem State.writeRegIn_regParity (w : Window) (n : RegNum) (v : Word) :
    (s.writeRegIn w n v).regParity = if n = 0#5 then s.regParity else s.regParity.written (regIndex w n) := rfl
@[simp] theorem State.writeRegIn_controlParity (w : Window) (n : RegNum) (v : Word) :
    (s.writeRegIn w n v).controlParity = s.controlParity := rfl
@[simp] theorem State.writeRegIn_hwerror (w : Window) (n : RegNum) (v : Word) :
    (s.writeRegIn w n v).hwerror = s.hwerror := rfl
@[simp] theorem State.writeRegIn_fpu (w : Window) (n : RegNum) (v : Word) : (s.writeRegIn w n v).fpu = s.fpu := rfl
@[simp] theorem State.writeRegIn_cp (w : Window) (n : RegNum) (v : Word) : (s.writeRegIn w n v).cp = s.cp := rfl
@[simp] theorem State.writeRegIn_mem (w : Window) (n : RegNum) (v : Word) : (s.writeRegIn w n v).mem = s.mem := rfl
@[simp] theorem State.writeRegIn_platform (w : Window) (n : RegNum) (v : Word) :
    (s.writeRegIn w n v).platform = s.platform := rfl
@[simp] theorem State.writeRegIn_storeUndo1 (w : Window) (n : RegNum) (v : Word) :
    (s.writeRegIn w n v).storeUndo1 = s.storeUndo1 := rfl
@[simp] theorem State.writeRegIn_storeUndo2 (w : Window) (n : RegNum) (v : Word) :
    (s.writeRegIn w n v).storeUndo2 = s.storeUndo2 := rfl
@[simp] theorem State.writeRegIn_inputs (w : Window) (n : RegNum) (v : Word) :
    (s.writeRegIn w n v).inputs = s.inputs := rfl
@[simp] theorem State.writeRegIn_bus (w : Window) (n : RegNum) (v : Word) : (s.writeRegIn w n v).bus = s.bus := rfl
@[simp] theorem State.writeRegIn_signals (w : Window) (n : RegNum) (v : Word) :
    (s.writeRegIn w n v).signals = s.signals := rfl
@[simp] theorem State.writeRegIn_freeIdx (w : Window) (n : RegNum) (v : Word) :
    (s.writeRegIn w n v).freeIdx = s.freeIdx := rfl

/-! ### writeReg -/

@[simp] theorem State.writeReg_params (n : RegNum) (v : Word) : (s.writeReg n v).params = s.params := rfl
@[simp] theorem State.writeReg_mode (n : RegNum) (v : Word) : (s.writeReg n v).mode = s.mode := rfl
@[simp] theorem State.writeReg_pc (n : RegNum) (v : Word) : (s.writeReg n v).pc = s.pc := rfl
@[simp] theorem State.writeReg_npc (n : RegNum) (v : Word) : (s.writeReg n v).npc = s.npc := rfl
@[simp] theorem State.writeReg_annul (n : RegNum) (v : Word) : (s.writeReg n v).annul = s.annul := rfl
@[simp] theorem State.writeReg_afterCondBranch (n : RegNum) (v : Word) :
    (s.writeReg n v).afterCondBranch = s.afterCondBranch := rfl
@[simp] theorem State.writeReg_psr (n : RegNum) (v : Word) : (s.writeReg n v).psr = s.psr := rfl
@[simp] theorem State.writeReg_wim (n : RegNum) (v : Word) : (s.writeReg n v).wim = s.wim := rfl
@[simp] theorem State.writeReg_tba (n : RegNum) (v : Word) : (s.writeReg n v).tba = s.tba := rfl
@[simp] theorem State.writeReg_tt (n : RegNum) (v : Word) : (s.writeReg n v).tt = s.tt := rfl
@[simp] theorem State.writeReg_y (n : RegNum) (v : Word) : (s.writeReg n v).y = s.y := rfl
@[simp] theorem State.writeReg_checksum (n : RegNum) (v : Word) : (s.writeReg n v).checksum = s.checksum := rfl
@[simp] theorem State.writeReg_pfcSkip (n : RegNum) (v : Word) : (s.writeReg n v).pfcSkip = s.pfcSkip := rfl
@[simp] theorem State.writeReg_ir (n : RegNum) (v : Word) : (s.writeReg n v).ir = s.ir := rfl
@[simp] theorem State.writeReg_regParity (n : RegNum) (v : Word) :
    (s.writeReg n v).regParity = if n = 0#5 then s.regParity else s.regParity.written (regIndex s.psr.cwp n) := rfl
@[simp] theorem State.writeReg_controlParity (n : RegNum) (v : Word) :
    (s.writeReg n v).controlParity = s.controlParity := rfl
@[simp] theorem State.writeReg_hwerror (n : RegNum) (v : Word) : (s.writeReg n v).hwerror = s.hwerror := rfl
@[simp] theorem State.writeReg_fpu (n : RegNum) (v : Word) : (s.writeReg n v).fpu = s.fpu := rfl
@[simp] theorem State.writeReg_cp (n : RegNum) (v : Word) : (s.writeReg n v).cp = s.cp := rfl
@[simp] theorem State.writeReg_mem (n : RegNum) (v : Word) : (s.writeReg n v).mem = s.mem := rfl
@[simp] theorem State.writeReg_platform (n : RegNum) (v : Word) : (s.writeReg n v).platform = s.platform := rfl
@[simp] theorem State.writeReg_storeUndo1 (n : RegNum) (v : Word) : (s.writeReg n v).storeUndo1 = s.storeUndo1 := rfl
@[simp] theorem State.writeReg_storeUndo2 (n : RegNum) (v : Word) : (s.writeReg n v).storeUndo2 = s.storeUndo2 := rfl
@[simp] theorem State.writeReg_inputs (n : RegNum) (v : Word) : (s.writeReg n v).inputs = s.inputs := rfl
@[simp] theorem State.writeReg_bus (n : RegNum) (v : Word) : (s.writeReg n v).bus = s.bus := rfl
@[simp] theorem State.writeReg_signals (n : RegNum) (v : Word) : (s.writeReg n v).signals = s.signals := rfl
@[simp] theorem State.writeReg_freeIdx (n : RegNum) (v : Word) : (s.writeReg n v).freeIdx = s.freeIdx := rfl

/-! ### transfer -/

@[simp] theorem State.transfer_params (a : Word) : (s.transfer a).params = s.params := rfl
@[simp] theorem State.transfer_mode (a : Word) : (s.transfer a).mode = s.mode := rfl
@[simp] theorem State.transfer_pc (a : Word) :
    (s.transfer a).pc = if s.afterCondBranch then freeAligned s.freeIdx else s.npc := rfl
@[simp] theorem State.transfer_npc (a : Word) :
    (s.transfer a).npc = if s.afterCondBranch then freeAligned (s.freeIdx + 1) else a := rfl
@[simp] theorem State.transfer_annul (a : Word) : (s.transfer a).annul = s.annul := rfl
@[simp] theorem State.transfer_afterCondBranch (a : Word) : (s.transfer a).afterCondBranch = s.afterCondBranch := rfl
@[simp] theorem State.transfer_psr (a : Word) : (s.transfer a).psr = s.psr := rfl
@[simp] theorem State.transfer_wim (a : Word) : (s.transfer a).wim = s.wim := rfl
@[simp] theorem State.transfer_tba (a : Word) : (s.transfer a).tba = s.tba := rfl
@[simp] theorem State.transfer_tt (a : Word) : (s.transfer a).tt = s.tt := rfl
@[simp] theorem State.transfer_y (a : Word) : (s.transfer a).y = s.y := rfl
@[simp] theorem State.transfer_globals (a : Word) : (s.transfer a).globals = s.globals := rfl
@[simp] theorem State.transfer_windows (a : Word) : (s.transfer a).windows = s.windows := rfl
@[simp] theorem State.transfer_checksum (a : Word) : (s.transfer a).checksum = s.checksum := rfl
@[simp] theorem State.transfer_pfcSkip (a : Word) : (s.transfer a).pfcSkip = s.pfcSkip := rfl
@[simp] theorem State.transfer_ir (a : Word) : (s.transfer a).ir = s.ir := rfl
@[simp] theorem State.transfer_regParity (a : Word) : (s.transfer a).regParity = s.regParity := rfl
@[simp] theorem State.transfer_controlParity (a : Word) : (s.transfer a).controlParity = s.controlParity := rfl
@[simp] theorem State.transfer_hwerror (a : Word) : (s.transfer a).hwerror = s.hwerror := rfl
@[simp] theorem State.transfer_fpu (a : Word) : (s.transfer a).fpu = s.fpu := rfl
@[simp] theorem State.transfer_cp (a : Word) : (s.transfer a).cp = s.cp := rfl
@[simp] theorem State.transfer_mem (a : Word) : (s.transfer a).mem = s.mem := rfl
@[simp] theorem State.transfer_platform (a : Word) : (s.transfer a).platform = s.platform := rfl
@[simp] theorem State.transfer_storeUndo1 (a : Word) : (s.transfer a).storeUndo1 = s.storeUndo1 := rfl
@[simp] theorem State.transfer_storeUndo2 (a : Word) : (s.transfer a).storeUndo2 = s.storeUndo2 := rfl
@[simp] theorem State.transfer_inputs (a : Word) : (s.transfer a).inputs = s.inputs := rfl
@[simp] theorem State.transfer_bus (a : Word) : (s.transfer a).bus = s.bus := rfl
@[simp] theorem State.transfer_signals (a : Word) : (s.transfer a).signals = s.signals := rfl
@[simp] theorem State.transfer_freeIdx (a : Word) :
    (s.transfer a).freeIdx = if s.afterCondBranch then s.freeIdx + 2 else s.freeIdx := rfl

/-! ### request -/

@[simp] theorem State.request_params (r : BusRequest) : (s.request r).params = s.params := rfl
@[simp] theorem State.request_mode (r : BusRequest) : (s.request r).mode = s.mode := rfl
@[simp] theorem State.request_pc (r : BusRequest) : (s.request r).pc = s.pc := rfl
@[simp] theorem State.request_npc (r : BusRequest) : (s.request r).npc = s.npc := rfl
@[simp] theorem State.request_annul (r : BusRequest) : (s.request r).annul = s.annul := rfl
@[simp] theorem State.request_afterCondBranch (r : BusRequest) :
    (s.request r).afterCondBranch = s.afterCondBranch := rfl
@[simp] theorem State.request_psr (r : BusRequest) : (s.request r).psr = s.psr := rfl
@[simp] theorem State.request_wim (r : BusRequest) : (s.request r).wim = s.wim := rfl
@[simp] theorem State.request_tba (r : BusRequest) : (s.request r).tba = s.tba := rfl
@[simp] theorem State.request_tt (r : BusRequest) : (s.request r).tt = s.tt := rfl
@[simp] theorem State.request_y (r : BusRequest) : (s.request r).y = s.y := rfl
@[simp] theorem State.request_globals (r : BusRequest) : (s.request r).globals = s.globals := rfl
@[simp] theorem State.request_windows (r : BusRequest) : (s.request r).windows = s.windows := rfl
@[simp] theorem State.request_checksum (r : BusRequest) : (s.request r).checksum = s.checksum := rfl
@[simp] theorem State.request_pfcSkip (r : BusRequest) : (s.request r).pfcSkip = s.pfcSkip := rfl
@[simp] theorem State.request_ir (r : BusRequest) : (s.request r).ir = s.ir := rfl
@[simp] theorem State.request_regParity (r : BusRequest) : (s.request r).regParity = s.regParity := rfl
@[simp] theorem State.request_controlParity (r : BusRequest) : (s.request r).controlParity = s.controlParity := rfl
@[simp] theorem State.request_hwerror (r : BusRequest) : (s.request r).hwerror = s.hwerror := rfl
@[simp] theorem State.request_fpu (r : BusRequest) : (s.request r).fpu = s.fpu := rfl
@[simp] theorem State.request_cp (r : BusRequest) : (s.request r).cp = s.cp := rfl
@[simp] theorem State.request_mem (r : BusRequest) : (s.request r).mem = s.mem := rfl
@[simp] theorem State.request_platform (r : BusRequest) : (s.request r).platform = s.platform := rfl
@[simp] theorem State.request_storeUndo1 (r : BusRequest) : (s.request r).storeUndo1 = s.storeUndo1 := rfl
@[simp] theorem State.request_storeUndo2 (r : BusRequest) : (s.request r).storeUndo2 = s.storeUndo2 := rfl
@[simp] theorem State.request_inputs (r : BusRequest) : (s.request r).inputs = s.inputs := rfl
@[simp] theorem State.request_bus (r : BusRequest) : (s.request r).bus = s.bus ++ [r] := rfl
@[simp] theorem State.request_signals (r : BusRequest) : (s.request r).signals = s.signals := rfl
@[simp] theorem State.request_freeIdx (r : BusRequest) : (s.request r).freeIdx = s.freeIdx := rfl

/-! ### pulse -/

@[simp] theorem State.pulse_params (p : Signal) : (s.pulse p).params = s.params := rfl
@[simp] theorem State.pulse_mode (p : Signal) : (s.pulse p).mode = s.mode := rfl
@[simp] theorem State.pulse_pc (p : Signal) : (s.pulse p).pc = s.pc := rfl
@[simp] theorem State.pulse_npc (p : Signal) : (s.pulse p).npc = s.npc := rfl
@[simp] theorem State.pulse_annul (p : Signal) : (s.pulse p).annul = s.annul := rfl
@[simp] theorem State.pulse_afterCondBranch (p : Signal) : (s.pulse p).afterCondBranch = s.afterCondBranch := rfl
@[simp] theorem State.pulse_psr (p : Signal) : (s.pulse p).psr = s.psr := rfl
@[simp] theorem State.pulse_wim (p : Signal) : (s.pulse p).wim = s.wim := rfl
@[simp] theorem State.pulse_tba (p : Signal) : (s.pulse p).tba = s.tba := rfl
@[simp] theorem State.pulse_tt (p : Signal) : (s.pulse p).tt = s.tt := rfl
@[simp] theorem State.pulse_y (p : Signal) : (s.pulse p).y = s.y := rfl
@[simp] theorem State.pulse_globals (p : Signal) : (s.pulse p).globals = s.globals := rfl
@[simp] theorem State.pulse_windows (p : Signal) : (s.pulse p).windows = s.windows := rfl
@[simp] theorem State.pulse_checksum (p : Signal) : (s.pulse p).checksum = s.checksum := rfl
@[simp] theorem State.pulse_pfcSkip (p : Signal) : (s.pulse p).pfcSkip = s.pfcSkip := rfl
@[simp] theorem State.pulse_ir (p : Signal) : (s.pulse p).ir = s.ir := rfl
@[simp] theorem State.pulse_regParity (p : Signal) : (s.pulse p).regParity = s.regParity := rfl
@[simp] theorem State.pulse_controlParity (p : Signal) : (s.pulse p).controlParity = s.controlParity := rfl
@[simp] theorem State.pulse_hwerror (p : Signal) : (s.pulse p).hwerror = s.hwerror := rfl
@[simp] theorem State.pulse_fpu (p : Signal) : (s.pulse p).fpu = s.fpu := rfl
@[simp] theorem State.pulse_cp (p : Signal) : (s.pulse p).cp = s.cp := rfl
@[simp] theorem State.pulse_mem (p : Signal) : (s.pulse p).mem = s.mem := rfl
@[simp] theorem State.pulse_platform (p : Signal) : (s.pulse p).platform = s.platform := rfl
@[simp] theorem State.pulse_storeUndo1 (p : Signal) : (s.pulse p).storeUndo1 = s.storeUndo1 := rfl
@[simp] theorem State.pulse_storeUndo2 (p : Signal) : (s.pulse p).storeUndo2 = s.storeUndo2 := rfl
@[simp] theorem State.pulse_inputs (p : Signal) : (s.pulse p).inputs = s.inputs := rfl
@[simp] theorem State.pulse_bus (p : Signal) : (s.pulse p).bus = s.bus := rfl
@[simp] theorem State.pulse_signals (p : Signal) : (s.pulse p).signals = s.signals ++ [p] := rfl
@[simp] theorem State.pulse_freeIdx (p : Signal) : (s.pulse p).freeIdx = s.freeIdx := rfl

/-! ### storeBytes -/

@[simp] theorem State.storeBytes_params (asi : Asi) (a : Word) (bs : List Byte) :
    (s.storeBytes asi a bs).params = s.params := rfl
@[simp] theorem State.storeBytes_mode (asi : Asi) (a : Word) (bs : List Byte) :
    (s.storeBytes asi a bs).mode = s.mode := rfl
@[simp] theorem State.storeBytes_pc (asi : Asi) (a : Word) (bs : List Byte) : (s.storeBytes asi a bs).pc = s.pc := rfl
@[simp] theorem State.storeBytes_npc (asi : Asi) (a : Word) (bs : List Byte) :
    (s.storeBytes asi a bs).npc = s.npc := rfl
@[simp] theorem State.storeBytes_annul (asi : Asi) (a : Word) (bs : List Byte) :
    (s.storeBytes asi a bs).annul = s.annul := rfl
@[simp] theorem State.storeBytes_afterCondBranch (asi : Asi) (a : Word) (bs : List Byte) :
    (s.storeBytes asi a bs).afterCondBranch = s.afterCondBranch := rfl
@[simp] theorem State.storeBytes_psr (asi : Asi) (a : Word) (bs : List Byte) :
    (s.storeBytes asi a bs).psr = s.psr := rfl
@[simp] theorem State.storeBytes_wim (asi : Asi) (a : Word) (bs : List Byte) :
    (s.storeBytes asi a bs).wim = s.wim := rfl
@[simp] theorem State.storeBytes_tba (asi : Asi) (a : Word) (bs : List Byte) :
    (s.storeBytes asi a bs).tba = s.tba := rfl
@[simp] theorem State.storeBytes_tt (asi : Asi) (a : Word) (bs : List Byte) : (s.storeBytes asi a bs).tt = s.tt := rfl
@[simp] theorem State.storeBytes_y (asi : Asi) (a : Word) (bs : List Byte) : (s.storeBytes asi a bs).y = s.y := rfl
@[simp] theorem State.storeBytes_globals (asi : Asi) (a : Word) (bs : List Byte) :
    (s.storeBytes asi a bs).globals = s.globals := rfl
@[simp] theorem State.storeBytes_windows (asi : Asi) (a : Word) (bs : List Byte) :
    (s.storeBytes asi a bs).windows = s.windows := rfl
@[simp] theorem State.storeBytes_checksum (asi : Asi) (a : Word) (bs : List Byte) :
    (s.storeBytes asi a bs).checksum = s.checksum := rfl
@[simp] theorem State.storeBytes_pfcSkip (asi : Asi) (a : Word) (bs : List Byte) :
    (s.storeBytes asi a bs).pfcSkip = s.pfcSkip := rfl
@[simp] theorem State.storeBytes_ir (asi : Asi) (a : Word) (bs : List Byte) : (s.storeBytes asi a bs).ir = s.ir := rfl
@[simp] theorem State.storeBytes_regParity (asi : Asi) (a : Word) (bs : List Byte) :
    (s.storeBytes asi a bs).regParity = s.regParity := rfl
@[simp] theorem State.storeBytes_controlParity (asi : Asi) (a : Word) (bs : List Byte) :
    (s.storeBytes asi a bs).controlParity = s.controlParity := rfl
@[simp] theorem State.storeBytes_hwerror (asi : Asi) (a : Word) (bs : List Byte) :
    (s.storeBytes asi a bs).hwerror = s.hwerror := rfl
@[simp] theorem State.storeBytes_fpu (asi : Asi) (a : Word) (bs : List Byte) :
    (s.storeBytes asi a bs).fpu = s.fpu := rfl
@[simp] theorem State.storeBytes_cp (asi : Asi) (a : Word) (bs : List Byte) : (s.storeBytes asi a bs).cp = s.cp := rfl
@[simp] theorem State.storeBytes_mem (asi : Asi) (a : Word) (bs : List Byte) :
    (s.storeBytes asi a bs).mem = writeSpan s.mem (s.platform.target asi) a bs := rfl
@[simp] theorem State.storeBytes_platform (asi : Asi) (a : Word) (bs : List Byte) :
    (s.storeBytes asi a bs).platform = s.platform := rfl
@[simp] theorem State.storeBytes_storeUndo1 (asi : Asi) (a : Word) (bs : List Byte) :
    (s.storeBytes asi a bs).storeUndo1 = s.storeUndo1 ++ oldSpan s.mem (s.platform.target asi) a bs := rfl
@[simp] theorem State.storeBytes_storeUndo2 (asi : Asi) (a : Word) (bs : List Byte) :
    (s.storeBytes asi a bs).storeUndo2 = s.storeUndo2 := rfl
@[simp] theorem State.storeBytes_inputs (asi : Asi) (a : Word) (bs : List Byte) :
    (s.storeBytes asi a bs).inputs = s.inputs := rfl
@[simp] theorem State.storeBytes_bus (asi : Asi) (a : Word) (bs : List Byte) :
    (s.storeBytes asi a bs).bus = s.bus := rfl
@[simp] theorem State.storeBytes_signals (asi : Asi) (a : Word) (bs : List Byte) :
    (s.storeBytes asi a bs).signals = s.signals := rfl
@[simp] theorem State.storeBytes_freeIdx (asi : Asi) (a : Word) (bs : List Byte) :
    (s.storeBytes asi a bs).freeIdx = s.freeIdx := rfl

/-! ### setUnit -/

@[simp] theorem State.setUnit_params (k : UnitKind) (u : Coproc) : (s.setUnit k u).params = s.params := rfl
@[simp] theorem State.setUnit_mode (k : UnitKind) (u : Coproc) : (s.setUnit k u).mode = s.mode := rfl
@[simp] theorem State.setUnit_pc (k : UnitKind) (u : Coproc) : (s.setUnit k u).pc = s.pc := rfl
@[simp] theorem State.setUnit_npc (k : UnitKind) (u : Coproc) : (s.setUnit k u).npc = s.npc := rfl
@[simp] theorem State.setUnit_annul (k : UnitKind) (u : Coproc) : (s.setUnit k u).annul = s.annul := rfl
@[simp] theorem State.setUnit_afterCondBranch (k : UnitKind) (u : Coproc) :
    (s.setUnit k u).afterCondBranch = s.afterCondBranch := rfl
@[simp] theorem State.setUnit_psr (k : UnitKind) (u : Coproc) : (s.setUnit k u).psr = s.psr := rfl
@[simp] theorem State.setUnit_wim (k : UnitKind) (u : Coproc) : (s.setUnit k u).wim = s.wim := rfl
@[simp] theorem State.setUnit_tba (k : UnitKind) (u : Coproc) : (s.setUnit k u).tba = s.tba := rfl
@[simp] theorem State.setUnit_tt (k : UnitKind) (u : Coproc) : (s.setUnit k u).tt = s.tt := rfl
@[simp] theorem State.setUnit_y (k : UnitKind) (u : Coproc) : (s.setUnit k u).y = s.y := rfl
@[simp] theorem State.setUnit_globals (k : UnitKind) (u : Coproc) : (s.setUnit k u).globals = s.globals := rfl
@[simp] theorem State.setUnit_windows (k : UnitKind) (u : Coproc) : (s.setUnit k u).windows = s.windows := rfl
@[simp] theorem State.setUnit_checksum (k : UnitKind) (u : Coproc) : (s.setUnit k u).checksum = s.checksum := rfl
@[simp] theorem State.setUnit_pfcSkip (k : UnitKind) (u : Coproc) : (s.setUnit k u).pfcSkip = s.pfcSkip := rfl
@[simp] theorem State.setUnit_ir (k : UnitKind) (u : Coproc) : (s.setUnit k u).ir = s.ir := rfl
@[simp] theorem State.setUnit_regParity (k : UnitKind) (u : Coproc) : (s.setUnit k u).regParity = s.regParity := rfl
@[simp] theorem State.setUnit_controlParity (k : UnitKind) (u : Coproc) :
    (s.setUnit k u).controlParity = s.controlParity := rfl
@[simp] theorem State.setUnit_hwerror (k : UnitKind) (u : Coproc) : (s.setUnit k u).hwerror = s.hwerror := rfl
@[simp] theorem State.setUnit_fpu (k : UnitKind) (u : Coproc) :
    (s.setUnit k u).fpu = if k = .fpu then u else s.fpu := rfl
@[simp] theorem State.setUnit_cp (k : UnitKind) (u : Coproc) : (s.setUnit k u).cp = if k = .cp then u else s.cp := rfl
@[simp] theorem State.setUnit_mem (k : UnitKind) (u : Coproc) : (s.setUnit k u).mem = s.mem := rfl
@[simp] theorem State.setUnit_platform (k : UnitKind) (u : Coproc) : (s.setUnit k u).platform = s.platform := rfl
@[simp] theorem State.setUnit_storeUndo1 (k : UnitKind) (u : Coproc) :
    (s.setUnit k u).storeUndo1 = s.storeUndo1 := rfl
@[simp] theorem State.setUnit_storeUndo2 (k : UnitKind) (u : Coproc) :
    (s.setUnit k u).storeUndo2 = s.storeUndo2 := rfl
@[simp] theorem State.setUnit_inputs (k : UnitKind) (u : Coproc) : (s.setUnit k u).inputs = s.inputs := rfl
@[simp] theorem State.setUnit_bus (k : UnitKind) (u : Coproc) : (s.setUnit k u).bus = s.bus := rfl
@[simp] theorem State.setUnit_signals (k : UnitKind) (u : Coproc) : (s.setUnit k u).signals = s.signals := rfl
@[simp] theorem State.setUnit_freeIdx (k : UnitKind) (u : Coproc) : (s.setUnit k u).freeIdx = s.freeIdx := rfl

/-! ### afterWork -/

@[simp] theorem State.afterWork_params (k : UnitKind) (r : Coproc × Nat) : (s.afterWork k r).params = s.params := rfl
@[simp] theorem State.afterWork_mode (k : UnitKind) (r : Coproc × Nat) : (s.afterWork k r).mode = s.mode := rfl
@[simp] theorem State.afterWork_pc (k : UnitKind) (r : Coproc × Nat) : (s.afterWork k r).pc = s.pc := rfl
@[simp] theorem State.afterWork_npc (k : UnitKind) (r : Coproc × Nat) : (s.afterWork k r).npc = s.npc := rfl
@[simp] theorem State.afterWork_annul (k : UnitKind) (r : Coproc × Nat) : (s.afterWork k r).annul = s.annul := rfl
@[simp] theorem State.afterWork_afterCondBranch (k : UnitKind) (r : Coproc × Nat) :
    (s.afterWork k r).afterCondBranch = s.afterCondBranch := rfl
@[simp] theorem State.afterWork_psr (k : UnitKind) (r : Coproc × Nat) : (s.afterWork k r).psr = s.psr := rfl
@[simp] theorem State.afterWork_wim (k : UnitKind) (r : Coproc × Nat) : (s.afterWork k r).wim = s.wim := rfl
@[simp] theorem State.afterWork_tba (k : UnitKind) (r : Coproc × Nat) : (s.afterWork k r).tba = s.tba := rfl
@[simp] theorem State.afterWork_tt (k : UnitKind) (r : Coproc × Nat) : (s.afterWork k r).tt = s.tt := rfl
@[simp] theorem State.afterWork_y (k : UnitKind) (r : Coproc × Nat) : (s.afterWork k r).y = s.y := rfl
@[simp] theorem State.afterWork_globals (k : UnitKind) (r : Coproc × Nat) :
    (s.afterWork k r).globals = s.globals := rfl
@[simp] theorem State.afterWork_windows (k : UnitKind) (r : Coproc × Nat) :
    (s.afterWork k r).windows = s.windows := rfl
@[simp] theorem State.afterWork_checksum (k : UnitKind) (r : Coproc × Nat) :
    (s.afterWork k r).checksum = s.checksum := rfl
@[simp] theorem State.afterWork_pfcSkip (k : UnitKind) (r : Coproc × Nat) :
    (s.afterWork k r).pfcSkip = s.pfcSkip := rfl
@[simp] theorem State.afterWork_ir (k : UnitKind) (r : Coproc × Nat) : (s.afterWork k r).ir = s.ir := rfl
@[simp] theorem State.afterWork_regParity (k : UnitKind) (r : Coproc × Nat) :
    (s.afterWork k r).regParity = s.regParity := rfl
@[simp] theorem State.afterWork_controlParity (k : UnitKind) (r : Coproc × Nat) :
    (s.afterWork k r).controlParity = s.controlParity := rfl
@[simp] theorem State.afterWork_hwerror (k : UnitKind) (r : Coproc × Nat) :
    (s.afterWork k r).hwerror = s.hwerror := rfl
@[simp] theorem State.afterWork_fpu (k : UnitKind) (r : Coproc × Nat) :
    (s.afterWork k r).fpu = if k = .fpu then r.1 else s.fpu := rfl
@[simp] theorem State.afterWork_cp (k : UnitKind) (r : Coproc × Nat) :
    (s.afterWork k r).cp = if k = .cp then r.1 else s.cp := rfl
@[simp] theorem State.afterWork_mem (k : UnitKind) (r : Coproc × Nat) : (s.afterWork k r).mem = s.mem := rfl
@[simp] theorem State.afterWork_platform (k : UnitKind) (r : Coproc × Nat) :
    (s.afterWork k r).platform = s.platform := rfl
@[simp] theorem State.afterWork_storeUndo1 (k : UnitKind) (r : Coproc × Nat) :
    (s.afterWork k r).storeUndo1 = s.storeUndo1 := rfl
@[simp] theorem State.afterWork_storeUndo2 (k : UnitKind) (r : Coproc × Nat) :
    (s.afterWork k r).storeUndo2 = s.storeUndo2 := rfl
@[simp] theorem State.afterWork_inputs (k : UnitKind) (r : Coproc × Nat) : (s.afterWork k r).inputs = s.inputs := rfl
@[simp] theorem State.afterWork_bus (k : UnitKind) (r : Coproc × Nat) : (s.afterWork k r).bus = s.bus := rfl
@[simp] theorem State.afterWork_signals (k : UnitKind) (r : Coproc × Nat) :
    (s.afterWork k r).signals = s.signals := rfl
@[simp] theorem State.afterWork_freeIdx (k : UnitKind) (r : Coproc × Nat) : (s.afterWork k r).freeIdx = r.2 := rfl

/-! ### closeBlock -/

@[simp] theorem State.closeBlock_params (b : Bool) : (s.closeBlock b).params = s.params := rfl
@[simp] theorem State.closeBlock_mode (b : Bool) : (s.closeBlock b).mode = s.mode := rfl
@[simp] theorem State.closeBlock_pc (b : Bool) : (s.closeBlock b).pc = s.pc := rfl
@[simp] theorem State.closeBlock_npc (b : Bool) : (s.closeBlock b).npc = s.npc := rfl
@[simp] theorem State.closeBlock_annul (b : Bool) : (s.closeBlock b).annul = s.annul := rfl
@[simp] theorem State.closeBlock_afterCondBranch (b : Bool) : (s.closeBlock b).afterCondBranch = false := rfl
@[simp] theorem State.closeBlock_psr (b : Bool) : (s.closeBlock b).psr = s.psr := rfl
@[simp] theorem State.closeBlock_wim (b : Bool) : (s.closeBlock b).wim = s.wim := rfl
@[simp] theorem State.closeBlock_tba (b : Bool) : (s.closeBlock b).tba = s.tba := rfl
@[simp] theorem State.closeBlock_tt (b : Bool) : (s.closeBlock b).tt = s.tt := rfl
@[simp] theorem State.closeBlock_y (b : Bool) : (s.closeBlock b).y = s.y := rfl
@[simp] theorem State.closeBlock_globals (b : Bool) : (s.closeBlock b).globals = s.globals := rfl
@[simp] theorem State.closeBlock_windows (b : Bool) : (s.closeBlock b).windows = s.windows := rfl
@[simp] theorem State.closeBlock_checksum (b : Bool) : (s.closeBlock b).checksum = 0#32 := rfl
@[simp] theorem State.closeBlock_pfcSkip (b : Bool) : (s.closeBlock b).pfcSkip = b := rfl
@[simp] theorem State.closeBlock_ir (b : Bool) : (s.closeBlock b).ir = s.ir := rfl
@[simp] theorem State.closeBlock_regParity (b : Bool) : (s.closeBlock b).regParity = s.regParity := rfl
@[simp] theorem State.closeBlock_controlParity (b : Bool) : (s.closeBlock b).controlParity = s.controlParity := rfl
@[simp] theorem State.closeBlock_hwerror (b : Bool) : (s.closeBlock b).hwerror = s.hwerror := rfl
@[simp] theorem State.closeBlock_fpu (b : Bool) : (s.closeBlock b).fpu = s.fpu := rfl
@[simp] theorem State.closeBlock_cp (b : Bool) : (s.closeBlock b).cp = s.cp := rfl
@[simp] theorem State.closeBlock_mem (b : Bool) : (s.closeBlock b).mem = s.mem := rfl
@[simp] theorem State.closeBlock_platform (b : Bool) : (s.closeBlock b).platform = s.platform := rfl
@[simp] theorem State.closeBlock_storeUndo1 (b : Bool) : (s.closeBlock b).storeUndo1 = s.storeUndo1 := rfl
@[simp] theorem State.closeBlock_storeUndo2 (b : Bool) : (s.closeBlock b).storeUndo2 = s.storeUndo2 := rfl
@[simp] theorem State.closeBlock_inputs (b : Bool) : (s.closeBlock b).inputs = s.inputs := rfl
@[simp] theorem State.closeBlock_bus (b : Bool) : (s.closeBlock b).bus = s.bus := rfl
@[simp] theorem State.closeBlock_signals (b : Bool) : (s.closeBlock b).signals = s.signals := rfl
@[simp] theorem State.closeBlock_freeIdx (b : Bool) : (s.closeBlock b).freeIdx = s.freeIdx := rfl

/-! ### quiet -/

@[simp] theorem State.quiet_params : s.quiet.params = s.params := rfl
@[simp] theorem State.quiet_mode : s.quiet.mode = s.mode := rfl
@[simp] theorem State.quiet_pc : s.quiet.pc = s.pc := rfl
@[simp] theorem State.quiet_npc : s.quiet.npc = s.npc := rfl
@[simp] theorem State.quiet_annul : s.quiet.annul = s.annul := rfl
@[simp] theorem State.quiet_afterCondBranch : s.quiet.afterCondBranch = s.afterCondBranch := rfl
@[simp] theorem State.quiet_psr : s.quiet.psr = s.psr := rfl
@[simp] theorem State.quiet_wim : s.quiet.wim = s.wim := rfl
@[simp] theorem State.quiet_tba : s.quiet.tba = s.tba := rfl
@[simp] theorem State.quiet_tt : s.quiet.tt = s.tt := rfl
@[simp] theorem State.quiet_y : s.quiet.y = s.y := rfl
@[simp] theorem State.quiet_globals : s.quiet.globals = s.globals := rfl
@[simp] theorem State.quiet_windows : s.quiet.windows = s.windows := rfl
@[simp] theorem State.quiet_checksum : s.quiet.checksum = s.checksum := rfl
@[simp] theorem State.quiet_pfcSkip : s.quiet.pfcSkip = s.pfcSkip := rfl
@[simp] theorem State.quiet_ir : s.quiet.ir = s.ir := rfl
@[simp] theorem State.quiet_regParity : s.quiet.regParity = s.regParity := rfl
@[simp] theorem State.quiet_controlParity : s.quiet.controlParity = s.controlParity := rfl
@[simp] theorem State.quiet_hwerror : s.quiet.hwerror = s.hwerror := rfl
@[simp] theorem State.quiet_fpu : s.quiet.fpu = s.fpu := rfl
@[simp] theorem State.quiet_cp : s.quiet.cp = s.cp := rfl
@[simp] theorem State.quiet_mem : s.quiet.mem = s.mem := rfl
@[simp] theorem State.quiet_platform : s.quiet.platform = s.platform := rfl
@[simp] theorem State.quiet_storeUndo1 : s.quiet.storeUndo1 = s.storeUndo1 := rfl
@[simp] theorem State.quiet_storeUndo2 : s.quiet.storeUndo2 = s.storeUndo2 := rfl
@[simp] theorem State.quiet_inputs : s.quiet.inputs = s.inputs := rfl
@[simp] theorem State.quiet_bus : s.quiet.bus = [] := rfl
@[simp] theorem State.quiet_signals : s.quiet.signals = [] := rfl
@[simp] theorem State.quiet_freeIdx : s.quiet.freeIdx = s.freeIdx := rfl

/-! ### requestFetch -/

@[simp] theorem State.requestFetch_params : s.requestFetch.params = s.params := rfl
@[simp] theorem State.requestFetch_mode : s.requestFetch.mode = s.mode := rfl
@[simp] theorem State.requestFetch_pc : s.requestFetch.pc = s.pc := rfl
@[simp] theorem State.requestFetch_npc : s.requestFetch.npc = s.npc := rfl
@[simp] theorem State.requestFetch_annul : s.requestFetch.annul = s.annul := rfl
@[simp] theorem State.requestFetch_afterCondBranch : s.requestFetch.afterCondBranch = s.afterCondBranch := rfl
@[simp] theorem State.requestFetch_psr : s.requestFetch.psr = s.psr := rfl
@[simp] theorem State.requestFetch_wim : s.requestFetch.wim = s.wim := rfl
@[simp] theorem State.requestFetch_tba : s.requestFetch.tba = s.tba := rfl
@[simp] theorem State.requestFetch_tt : s.requestFetch.tt = s.tt := rfl
@[simp] theorem State.requestFetch_y : s.requestFetch.y = s.y := rfl
@[simp] theorem State.requestFetch_globals : s.requestFetch.globals = s.globals := rfl
@[simp] theorem State.requestFetch_windows : s.requestFetch.windows = s.windows := rfl
@[simp] theorem State.requestFetch_checksum : s.requestFetch.checksum = s.checksum := rfl
@[simp] theorem State.requestFetch_pfcSkip : s.requestFetch.pfcSkip = s.pfcSkip := rfl
@[simp] theorem State.requestFetch_ir : s.requestFetch.ir = s.ir := rfl
@[simp] theorem State.requestFetch_regParity : s.requestFetch.regParity = s.regParity := rfl
@[simp] theorem State.requestFetch_controlParity : s.requestFetch.controlParity = s.controlParity := rfl
@[simp] theorem State.requestFetch_hwerror : s.requestFetch.hwerror = s.hwerror := rfl
@[simp] theorem State.requestFetch_fpu : s.requestFetch.fpu = s.fpu := rfl
@[simp] theorem State.requestFetch_cp : s.requestFetch.cp = s.cp := rfl
@[simp] theorem State.requestFetch_mem : s.requestFetch.mem = s.mem := rfl
@[simp] theorem State.requestFetch_platform : s.requestFetch.platform = s.platform := rfl
@[simp] theorem State.requestFetch_storeUndo1 : s.requestFetch.storeUndo1 = s.storeUndo1 := rfl
@[simp] theorem State.requestFetch_storeUndo2 : s.requestFetch.storeUndo2 = s.storeUndo2 := rfl
@[simp] theorem State.requestFetch_inputs : s.requestFetch.inputs = s.inputs := rfl
@[simp] theorem State.requestFetch_bus : s.requestFetch.bus = s.bus ++ [s.fetchRequest] := rfl
@[simp] theorem State.requestFetch_signals : s.requestFetch.signals = s.signals ++ [.inst] := rfl
@[simp] theorem State.requestFetch_freeIdx : s.requestFetch.freeIdx = s.freeIdx := rfl

/-! ### readInstr -/

@[simp] theorem State.readInstr_params : s.readInstr.params = s.params := rfl
@[simp] theorem State.readInstr_mode : s.readInstr.mode = s.mode := rfl
@[simp] theorem State.readInstr_pc : s.readInstr.pc = s.pc := rfl
@[simp] theorem State.readInstr_npc : s.readInstr.npc = s.npc := rfl
@[simp] theorem State.readInstr_annul : s.readInstr.annul = s.annul := rfl
@[simp] theorem State.readInstr_afterCondBranch : s.readInstr.afterCondBranch = s.afterCondBranch := rfl
@[simp] theorem State.readInstr_psr : s.readInstr.psr = s.psr := rfl
@[simp] theorem State.readInstr_wim : s.readInstr.wim = s.wim := rfl
@[simp] theorem State.readInstr_tba : s.readInstr.tba = s.tba := rfl
@[simp] theorem State.readInstr_tt : s.readInstr.tt = s.tt := rfl
@[simp] theorem State.readInstr_y : s.readInstr.y = s.y := rfl
@[simp] theorem State.readInstr_globals : s.readInstr.globals = s.globals := rfl
@[simp] theorem State.readInstr_windows : s.readInstr.windows = s.windows := rfl
@[simp] theorem State.readInstr_checksum : s.readInstr.checksum = s.checksum := rfl
@[simp] theorem State.readInstr_pfcSkip : s.readInstr.pfcSkip = s.pfcSkip := rfl
@[simp] theorem State.readInstr_ir : s.readInstr.ir = s.fetchWord := rfl
@[simp] theorem State.readInstr_regParity : s.readInstr.regParity = s.regParity := rfl
@[simp] theorem State.readInstr_controlParity : s.readInstr.controlParity = s.controlParity := rfl
@[simp] theorem State.readInstr_hwerror : s.readInstr.hwerror = s.hwerror := rfl
@[simp] theorem State.readInstr_fpu : s.readInstr.fpu = s.fpu := rfl
@[simp] theorem State.readInstr_cp : s.readInstr.cp = s.cp := rfl
@[simp] theorem State.readInstr_mem : s.readInstr.mem = s.mem := rfl
@[simp] theorem State.readInstr_platform : s.readInstr.platform = s.platform := rfl
@[simp] theorem State.readInstr_storeUndo1 : s.readInstr.storeUndo1 = s.storeUndo1 := rfl
@[simp] theorem State.readInstr_storeUndo2 : s.readInstr.storeUndo2 = s.storeUndo2 := rfl
@[simp] theorem State.readInstr_inputs : s.readInstr.inputs = s.inputs := rfl
@[simp] theorem State.readInstr_bus : s.readInstr.bus = s.bus ++ [s.fetchRequest] := rfl
@[simp] theorem State.readInstr_signals : s.readInstr.signals = s.signals ++ [.inst] := rfl
@[simp] theorem State.readInstr_freeIdx :
    s.readInstr.freeIdx = if s.fetchStable then s.freeIdx else s.freeIdx + 2 := rfl

/-! ### fetched -/

@[simp] theorem State.fetched_params : s.fetched.params = s.params := rfl
@[simp] theorem State.fetched_mode : s.fetched.mode = s.mode := rfl
@[simp] theorem State.fetched_pc : s.fetched.pc = s.pc := rfl
@[simp] theorem State.fetched_npc : s.fetched.npc = s.npc := rfl
@[simp] theorem State.fetched_annul : s.fetched.annul = s.annul := rfl
@[simp] theorem State.fetched_afterCondBranch : s.fetched.afterCondBranch = s.afterCondBranch := rfl
@[simp] theorem State.fetched_psr : s.fetched.psr = s.psr := rfl
@[simp] theorem State.fetched_wim : s.fetched.wim = s.wim := rfl
@[simp] theorem State.fetched_tba : s.fetched.tba = s.tba := rfl
@[simp] theorem State.fetched_tt : s.fetched.tt = s.tt := rfl
@[simp] theorem State.fetched_y : s.fetched.y = s.y := rfl
@[simp] theorem State.fetched_globals : s.fetched.globals = s.globals := rfl
@[simp] theorem State.fetched_windows : s.fetched.windows = s.windows := rfl
@[simp] theorem State.fetched_checksum : s.fetched.checksum = s.checksum := rfl
@[simp] theorem State.fetched_pfcSkip : s.fetched.pfcSkip = s.pfcSkip := rfl
@[simp] theorem State.fetched_ir : s.fetched.ir = s.fetchWord := rfl
@[simp] theorem State.fetched_regParity : s.fetched.regParity = s.regParity := rfl
@[simp] theorem State.fetched_controlParity : s.fetched.controlParity = s.controlParity := rfl
@[simp] theorem State.fetched_hwerror : s.fetched.hwerror = s.hwerror.resumed s.pc := rfl
@[simp] theorem State.fetched_fpu : s.fetched.fpu = s.fpu := rfl
@[simp] theorem State.fetched_cp : s.fetched.cp = s.cp := rfl
@[simp] theorem State.fetched_mem : s.fetched.mem = s.mem := rfl
@[simp] theorem State.fetched_platform : s.fetched.platform = s.platform := rfl
@[simp] theorem State.fetched_storeUndo1 : s.fetched.storeUndo1 = [] := rfl
@[simp] theorem State.fetched_storeUndo2 : s.fetched.storeUndo2 = s.storeUndo1 := rfl
@[simp] theorem State.fetched_inputs : s.fetched.inputs = s.inputs := rfl
@[simp] theorem State.fetched_bus : s.fetched.bus = s.bus ++ [s.fetchRequest] := rfl
@[simp] theorem State.fetched_signals : s.fetched.signals = s.signals ++ [.inst] := rfl
@[simp] theorem State.fetched_freeIdx : s.fetched.freeIdx = if s.fetchStable then s.freeIdx else s.freeIdx + 2 := rfl

/-! ### otherMasters -/

@[simp] theorem State.otherMasters_params : s.otherMasters.params = s.params := rfl
@[simp] theorem State.otherMasters_mode : s.otherMasters.mode = s.mode := rfl
@[simp] theorem State.otherMasters_pc : s.otherMasters.pc = s.pc := rfl
@[simp] theorem State.otherMasters_npc : s.otherMasters.npc = s.npc := rfl
@[simp] theorem State.otherMasters_annul : s.otherMasters.annul = s.annul := rfl
@[simp] theorem State.otherMasters_afterCondBranch : s.otherMasters.afterCondBranch = s.afterCondBranch := rfl
@[simp] theorem State.otherMasters_psr : s.otherMasters.psr = s.psr := rfl
@[simp] theorem State.otherMasters_wim : s.otherMasters.wim = s.wim := rfl
@[simp] theorem State.otherMasters_tba : s.otherMasters.tba = s.tba := rfl
@[simp] theorem State.otherMasters_tt : s.otherMasters.tt = s.tt := rfl
@[simp] theorem State.otherMasters_y : s.otherMasters.y = s.y := rfl
@[simp] theorem State.otherMasters_globals : s.otherMasters.globals = s.globals := rfl
@[simp] theorem State.otherMasters_windows : s.otherMasters.windows = s.windows := rfl
@[simp] theorem State.otherMasters_checksum : s.otherMasters.checksum = s.checksum := rfl
@[simp] theorem State.otherMasters_pfcSkip : s.otherMasters.pfcSkip = s.pfcSkip := rfl
@[simp] theorem State.otherMasters_ir : s.otherMasters.ir = s.ir := rfl
@[simp] theorem State.otherMasters_regParity : s.otherMasters.regParity = s.regParity := rfl
@[simp] theorem State.otherMasters_controlParity : s.otherMasters.controlParity = s.controlParity := rfl
@[simp] theorem State.otherMasters_hwerror : s.otherMasters.hwerror = s.hwerror := rfl
@[simp] theorem State.otherMasters_fpu : s.otherMasters.fpu = s.fpu := rfl
@[simp] theorem State.otherMasters_cp : s.otherMasters.cp = s.cp := rfl
@[simp] theorem State.otherMasters_mem :
    s.otherMasters.mem = s.inputs.busWrites.foldl (fun m w => writeCell m (s.byteKey w.asi w.addr) w.data) s.mem := rfl
@[simp] theorem State.otherMasters_platform : s.otherMasters.platform = s.platform := rfl
@[simp] theorem State.otherMasters_storeUndo1 : s.otherMasters.storeUndo1 = s.storeUndo1 := rfl
@[simp] theorem State.otherMasters_storeUndo2 : s.otherMasters.storeUndo2 = s.storeUndo2 := rfl
@[simp] theorem State.otherMasters_inputs : s.otherMasters.inputs = { s.inputs with busWrites := [] } := rfl
@[simp] theorem State.otherMasters_bus : s.otherMasters.bus = s.bus := rfl
@[simp] theorem State.otherMasters_signals : s.otherMasters.signals = s.signals := rfl
@[simp] theorem State.otherMasters_freeIdx : s.otherMasters.freeIdx = s.freeIdx := rfl

/-! ### takeTrap -/

@[simp] theorem State.takeTrap_params (t : Trap) : (s.takeTrap t).params = s.params := rfl
@[simp] theorem State.takeTrap_mode (t : Trap) : (s.takeTrap t).mode = if s.psr.et then s.mode else .error := rfl
@[simp] theorem State.takeTrap_pc (t : Trap) : (s.takeTrap t).pc = s.vector t.tt := rfl
@[simp] theorem State.takeTrap_npc (t : Trap) : (s.takeTrap t).npc = s.vector t.tt + 4#32 := rfl
@[simp] theorem State.takeTrap_annul (t : Trap) : (s.takeTrap t).annul = false := rfl
@[simp] theorem State.takeTrap_afterCondBranch (t : Trap) : (s.takeTrap t).afterCondBranch = false := rfl
@[simp] theorem State.takeTrap_psr (t : Trap) :
    (s.takeTrap t).psr = { s.psr with et := false, ps := s.psr.s, s := true, cwp := s.psr.cwp - 1#3 } := rfl
@[simp] theorem State.takeTrap_wim (t : Trap) : (s.takeTrap t).wim = s.wim := rfl
@[simp] theorem State.takeTrap_tba (t : Trap) : (s.takeTrap t).tba = s.tba := rfl
@[simp] theorem State.takeTrap_tt (t : Trap) : (s.takeTrap t).tt = t.tt := rfl
@[simp] theorem State.takeTrap_y (t : Trap) : (s.takeTrap t).y = s.y := rfl
@[simp] theorem State.takeTrap_globals (t : Trap) : (s.takeTrap t).globals = s.globals := rfl
@[simp] theorem State.takeTrap_checksum (t : Trap) : (s.takeTrap t).checksum = s.checksum := rfl
@[simp] theorem State.takeTrap_pfcSkip (t : Trap) :
    (s.takeTrap t).pfcSkip = (s.params.flowEnabled || s.pfcSkip) := rfl
@[simp] theorem State.takeTrap_ir (t : Trap) : (s.takeTrap t).ir = s.ir := rfl
@[simp] theorem State.takeTrap_controlParity (t : Trap) : (s.takeTrap t).controlParity = s.controlParity := rfl
@[simp] theorem State.takeTrap_hwerror (t : Trap) : (s.takeTrap t).hwerror = s.hwerror := rfl
@[simp] theorem State.takeTrap_fpu (t : Trap) :
    (s.takeTrap t).fpu = if t = .fpException then s.fpu.acknowledge else s.fpu := rfl
@[simp] theorem State.takeTrap_cp (t : Trap) :
    (s.takeTrap t).cp = if t = .cpException then s.cp.acknowledge else s.cp := rfl
@[simp] theorem State.takeTrap_mem (t : Trap) : (s.takeTrap t).mem = s.mem := rfl
@[simp] theorem State.takeTrap_platform (t : Trap) : (s.takeTrap t).platform = s.platform := rfl
@[simp] theorem State.takeTrap_storeUndo1 (t : Trap) : (s.takeTrap t).storeUndo1 = [] := rfl
@[simp] theorem State.takeTrap_storeUndo2 (t : Trap) : (s.takeTrap t).storeUndo2 = [] := rfl
@[simp] theorem State.takeTrap_inputs (t : Trap) : (s.takeTrap t).inputs = s.inputs := rfl
@[simp] theorem State.takeTrap_bus (t : Trap) : (s.takeTrap t).bus = s.bus := rfl
@[simp] theorem State.takeTrap_signals (t : Trap) : (s.takeTrap t).signals = s.signals ++ t.signals := rfl
@[simp] theorem State.takeTrap_freeIdx (t : Trap) : (s.takeTrap t).freeIdx = s.freeIdx := rfl

/-! ### The values the accessors of a unit read -/

@[simp] theorem State.unit_setUnit (k : UnitKind) (u : Coproc) : (s.setUnit k u).unit k = u := by cases k <;> rfl

@[simp] theorem State.setUnit_unit (k : UnitKind) : s.setUnit k (s.unit k) = s := by cases k <;> rfl

/-! ### What a field-by-field reading of a state gives -/

@[simp] theorem State.readRegIn_zero (w : Window) : s.readRegIn w 0#5 = 0#32 := rfl

@[simp] theorem State.readReg_zero : s.readReg 0#5 = 0#32 := rfl

end Sys2Proof.Machine
end

