-- ==== Sys2Proof/Laws/Memory.lean ====
section
/-! SUPPORT. Reading after writing memory, and that every write keeps the canonical form. -/

namespace Sys2Proof.Machine

/-- A key above every listed one reads as unlisted. -/
theorem readCell_above {lo : Option Nat} {m : List Host.Cell} (h : Memory.wfAbove lo m = true) {k : Nat}
    (hk : ∀ l, lo = some l → k ≤ l) (hlo : lo ≠ none) : readCell m k = Memory.unlisted := by
  induction m generalizing lo with
  | nil => rfl
  | cons c rest ih =>
    obtain ⟨a, b⟩ := c
    obtain ⟨l, rfl⟩ := Option.ne_none_iff_exists'.mp hlo
    simp only [Memory.wfAbove, Option.all_some, Bool.and_eq_true, decide_eq_true_eq, bne_iff_ne] at h
    have hkl := hk l rfl
    have hne : a ≠ k := by omega
    simp only [readCell, hne, if_false]
    exact ih h.2 (by rintro _ ⟨⟩; omega) (by simp)

/-- Reading a key after writing one. -/
theorem readCell_writeCell {lo : Option Nat} {m : List Host.Cell} (h : Memory.wfAbove lo m = true) (k j : Nat) (v : Byte) :
    readCell (writeCell m k v) j = if j = k then v else readCell m j := by
  induction m generalizing lo with
  | nil =>
    simp only [writeCell]
    by_cases hv : v = Memory.unlisted <;> by_cases hj : j = k <;> simp [hv, hj, readCell]
    exact fun e => absurd e.symm hj
  | cons c rest ih =>
    obtain ⟨a, b⟩ := c
    simp only [Memory.wfAbove, Bool.and_eq_true] at h
    have hrest := h.2
    simp only [writeCell]
    split
    · next hka =>
      by_cases hj : j = k
      · subst hj
        have : readCell rest j = Memory.unlisted := readCell_above hrest (by rintro _ ⟨⟩; omega) (by simp)
        by_cases hv : v = Memory.unlisted
        · simp [hv, readCell, this, Nat.ne_of_gt hka]
        · simp [hv, readCell]
      · by_cases hv : v = Memory.unlisted <;> simp [hv, readCell, hj, Ne.symm hj]
    · split
      · next hka =>
        subst hka
        by_cases hj : j = a
        · subst hj
          by_cases hv : v = Memory.unlisted
          · simp [hv, readCell_above hrest (k := j) (by rintro _ ⟨⟩; omega) (by simp)]
          · simp [hv, readCell]
        · by_cases hv : v = Memory.unlisted <;> simp [hv, readCell, hj, Ne.symm hj]
      · next hka =>
        by_cases hj : j = a
        · subst hj; simp [readCell, hka]
        · simp [readCell, Ne.symm hj, ih hrest]

/-- A write keeps the canonical form. -/
theorem wfAbove_writeCell {lo : Option Nat} {m : List Host.Cell} (h : Memory.wfAbove lo m = true) (k : Nat) (v : Byte)
    (hk : lo.all (fun l => l < k) = true) : Memory.wfAbove lo (writeCell m k v) = true := by
  induction m generalizing lo with
  | nil => simp only [writeCell]; split <;> simp_all [Memory.wfAbove]
  | cons c rest ih =>
    obtain ⟨a, b⟩ := c
    simp only [Memory.wfAbove, Bool.and_eq_true] at h
    obtain ⟨⟨hlo, hb⟩, hrest⟩ := h
    simp only [writeCell]
    split
    · next hka =>
      split
      · simp [Memory.wfAbove, hlo, hb, hrest]
      · next hv => simp [Memory.wfAbove, hk, hb, hrest, hka, hv]
    · split
      · next hka =>
        subst hka
        split
        · exact wfAbove_weaken hrest hlo
        · next hv => simp [Memory.wfAbove, hlo, hrest, hv]
      · next hka hne =>
        simp only [Memory.wfAbove, Bool.and_eq_true]
        exact ⟨⟨hlo, hb⟩, ih hrest (by simp; omega)⟩
where
  wfAbove_weaken {lo : Option Nat} {a : Nat} {m : List Host.Cell} (h : Memory.wfAbove (some a) m = true)
      (ha : lo.all (fun l => l < a) = true) : Memory.wfAbove lo m = true := by
    cases m with
    | nil => rfl
    | cons c rest =>
      obtain ⟨x, y⟩ := c
      simp only [Memory.wfAbove, Bool.and_eq_true, Option.all_some, decide_eq_true_eq] at h ⊢
      refine ⟨⟨?_, h.1.2⟩, h.2⟩
      cases lo with
      | none => rfl
      | some l => simp_all; omega

theorem wf_writeCell {m : List Host.Cell} (h : Memory.wf m = true) (k : Nat) (v : Byte) : Memory.wf (writeCell m k v) = true :=
  wfAbove_writeCell h k v rfl

theorem wf_writeSpan {m : List Host.Cell} (h : Memory.wf m = true) (asi : Asi) (a : Word) (bs : List Byte) :
    Memory.wf (writeSpan m asi a bs) = true := by
  induction bs generalizing m a with
  | nil => exact h
  | cons b bs ih => exact ih (wf_writeCell h _ _) _

/-- Storing keeps the canonical form. -/
theorem wf_storeBytes {s : State} (h : Memory.wf s.mem = true) (asi : Asi) (a : Word) (bs : List Byte) :
    Memory.wf (s.storeBytes asi a bs).mem = true := wf_writeSpan h (s.platform.target asi) a bs

/-- All that other bus masters do between a fetch and the data requests (rule R113): the canonical form stays, and a byte holds what
was written to it last, or what it held. -/
theorem otherMasters_spec {s : State} (h : Memory.wf s.mem = true) :
    Memory.wf s.otherMasters.mem = true ∧ ∀ asi a, s.otherMasters.readByte asi a =
      s.inputs.busWrites.foldl (fun b w => if s.byteKey w.asi w.addr = s.byteKey asi a then w.data else b)
        (s.readByte asi a) := by
  suffices ∀ (ws : List BusWrite) (m : List Host.Cell), Memory.wf m = true →
      let m' := ws.foldl (fun m w => writeCell m (s.byteKey w.asi w.addr) w.data) m
      Memory.wf m' = true ∧ ∀ k, readCell m' k =
        ws.foldl (fun b w => if s.byteKey w.asi w.addr = k then w.data else b) (readCell m k) from
    ⟨(this _ _ h).1, fun asi a => (this _ _ h).2 (s.byteKey asi a)⟩
  intro ws
  induction ws with
  | nil => exact fun m hm => ⟨hm, fun _ => rfl⟩
  | cons w ws ih =>
    intro m hm
    have hw := wf_writeCell hm (s.byteKey w.asi w.addr) w.data
    refine ⟨(ih _ hw).1, fun k => ?_⟩
    rw [List.foldl_cons, (ih _ hw).2 k, readCell_writeCell hm]
    simp only [List.foldl_cons, eq_comm]

theorem wf_reset : Memory.wf State.reset.mem = true := rfl

/-! ### Keys -/

/-- Two bytes are the same cell exactly when space and address are the same. -/
theorem memKey_eq_iff (asi asi' : Asi) (a a' : Word) :
    memKey asi a = memKey asi' a' ↔ asiSpace asi = asiSpace asi' ∧ a = a' := by
  unfold memKey
  have := a.isLt
  have := a'.isLt
  constructor
  · intro h
    exact ⟨by omega, BitVec.eq_of_toNat_eq (by omega)⟩
  · rintro ⟨h, rfl⟩; rw [h]

/-- Two names are the same byte exactly when their ASIs name one memory and the addresses are the same (rule R82). -/
theorem byteKey_eq_iff (s : State) (asi asi' : Asi) (a a' : Word) :
    s.byteKey asi a = s.byteKey asi' a' ↔
      asiSpace (s.platform.target asi) = asiSpace (s.platform.target asi') ∧ a = a' := memKey_eq_iff _ _ _ _

/-- The shared memory is its own target. -/
theorem target_shared {p : Platform} {asi : Asi} (h : sharedAsi asi = true) : p.target asi = asi := by
  simp [Platform.target, h]

theorem asiSpace_shared {asi : Asi} (h : sharedAsi asi = true) : asiSpace asi = 0 := by simp [asiSpace, h]

theorem sharedAsi_dataAsi (s : State) : sharedAsi s.dataAsi = true := by
  unfold State.dataAsi; split <;> decide

theorem sharedAsi_fetchAsi (s : State) : sharedAsi s.fetchAsi = true := by
  unfold State.fetchAsi; split <;> decide

/-! ### A few consecutive bytes -/

/-- Offsets below 2^32 are told apart by addition. -/
theorem add_ofNat_inj {a : Word} {i j : Nat} (hi : i < 2 ^ 32) (hj : j < 2 ^ 32)
    (h : a + BitVec.ofNat 32 i = a + BitVec.ofNat 32 j) : i = j := by
  have := congrArg BitVec.toNat h
  simp only [BitVec.toNat_add, BitVec.toNat_ofNat, Nat.mod_eq_of_lt hi, Nat.mod_eq_of_lt hj] at this
  have := a.isLt
  omega

theorem add_ofNat_succ (a : Word) (i : Nat) : a + BitVec.ofNat 32 (i + 1) = a + 1#32 + BitVec.ofNat 32 i := by
  rw [Nat.add_comm, BitVec.ofNat_add, BitVec.add_assoc]

/-- A span leaves every key outside it alone. -/
theorem readCell_writeSpan_outside {m : List Host.Cell} (h : Memory.wf m = true) (asi : Asi) (a : Word) (bs : List Byte)
    {k : Nat} (hk : ∀ i < bs.length, k ≠ memKey asi (a + BitVec.ofNat 32 i)) :
    readCell (writeSpan m asi a bs) k = readCell m k := by
  induction bs generalizing m a with
  | nil => rfl
  | cons b bs ih =>
    rw [writeSpan, ih (wf_writeCell h _ _) _ fun i hi => ?_, readCell_writeCell h, if_neg]
    · simpa using hk 0 (by simp)
    · rw [← add_ofNat_succ]; exact hk (i + 1) (by simpa using hi)

/-- A span reads back byte by byte. -/
theorem readCell_writeSpan_inside {m : List Host.Cell} (h : Memory.wf m = true) (asi : Asi) (a : Word) (bs : List Byte)
    (hl : bs.length ≤ 2 ^ 32) {i : Nat} (hi : i < bs.length) :
    readCell (writeSpan m asi a bs) (memKey asi (a + BitVec.ofNat 32 i)) = bs[i] := by
  induction bs generalizing m a i with
  | nil => exact absurd hi (by simp)
  | cons b bs ih =>
    simp only [List.length_cons] at hl hi
    rw [writeSpan]
    cases i with
    | zero =>
      rw [readCell_writeSpan_outside (wf_writeCell h _ _) _ _ _ fun j hj => ?_, readCell_writeCell h]
      · simp
      · intro e
        rw [← add_ofNat_succ] at e
        have := add_ofNat_inj (by decide) (by omega) ((memKey_eq_iff _ _ _ _).mp e).2
        omega
    | succ i =>
      rw [add_ofNat_succ a i]
      exact ih (wf_writeCell h _ _) (a + 1#32) (by omega) (by omega)

/-- Storing leaves every byte outside the span alone. -/
theorem sameMemoryBut_storeBytes {s : State} (h : Memory.wf s.mem = true) (asi : Asi) (a : Word) (bs : List Byte) :
    s.SameMemoryBut (s.storeBytes asi a bs) asi a bs.length :=
  fun asi' a' hk => readCell_writeSpan_outside h (s.platform.target asi) a bs (k := s.byteKey asi' a') hk

/-- A stored byte reads back. -/
theorem readByte_storeBytes {s : State} (h : Memory.wf s.mem = true) (asi : Asi) (a : Word) (bs : List Byte)
    (hl : bs.length ≤ 2 ^ 32) {i : Nat} (hi : i < bs.length) :
    (s.storeBytes asi a bs).readByte asi (a + BitVec.ofNat 32 i) = bs[i] :=
  readCell_writeSpan_inside h (s.platform.target asi) a bs hl hi

/-! ### Words in memory -/

/-- The four bytes of a word, put together again. -/
theorem word_of_bytes (v : Word) :
    v.extractLsb' 24 8 ++ v.extractLsb' 16 8 ++ v.extractLsb' 8 8 ++ v.extractLsb' 0 8 = v := by
  apply BitVec.eq_of_getLsbD_eq
  intro i hi
  simp only [BitVec.getLsbD_append, BitVec.getLsbD_extractLsb']
  rcases (by omega : i < 8 ∨ (8 ≤ i ∧ i < 16) ∨ (16 ≤ i ∧ i < 24) ∨ (24 ≤ i ∧ i < 32)) with h | ⟨h, h'⟩ | ⟨h, h'⟩ | ⟨h, h'⟩
  · simp [h]
  · simp [Nat.not_lt.mpr h, show i - 8 < 8 by omega, show 8 + (i - 8) = i by omega]
  · simp [Nat.not_lt.mpr (show 8 ≤ i by omega), Nat.not_lt.mpr (show 8 ≤ i - 8 by omega),
      show i - 8 - 8 < 8 by omega, show 16 + (i - 8 - 8) = i by omega]
  · simp [Nat.not_lt.mpr (show 8 ≤ i by omega), Nat.not_lt.mpr (show 8 ≤ i - 8 by omega),
      Nat.not_lt.mpr (show 8 ≤ i - 8 - 8 by omega), show i - 8 - 8 - 8 < 8 by omega,
      show 24 + (i - 8 - 8 - 8) = i by omega]

/-- A stored word reads back. -/
theorem readWord_storeBytes {s : State} (h : Memory.wf s.mem = true) (asi : Asi) (a v : Word) :
    (s.storeBytes asi a (bytesOfData v)).readWord asi a = v := by
  have r (i : Nat) (hi : i < 4) := readByte_storeBytes h asi a (bytesOfData v) (by simp [bytesOfData]) (i := i) hi
  have r0 := r 0 (by decide)
  have r1 := r 1 (by decide)
  have r2 := r 2 (by decide)
  have r3 := r 3 (by decide)
  simp only [BitVec.add_zero] at r0
  unfold State.readWord
  rw [r0, show (1#32) = BitVec.ofNat 32 1 from rfl, r1, show (2#32) = BitVec.ofNat 32 2 from rfl, r2,
    show (3#32) = BitVec.ofNat 32 3 from rfl, r3]
  exact word_of_bytes v

/-- Reading a word looks at four bytes only. -/
theorem readWord_congr {s t : State} {asi : Asi} {a : Word}
    (h : ∀ j < 4, t.readByte asi (a + BitVec.ofNat 32 j) = s.readByte asi (a + BitVec.ofNat 32 j)) :
    t.readWord asi a = s.readWord asi a := by
  have h0 := h 0 (by decide)
  have h1 := h 1 (by decide)
  have h2 := h 2 (by decide)
  have h3 := h 3 (by decide)
  simp only [BitVec.add_zero] at h0
  unfold State.readWord
  rw [h0, show (1#32) = BitVec.ofNat 32 1 from rfl, h1, show (2#32) = BitVec.ofNat 32 2 from rfl, h2,
    show (3#32) = BitVec.ofNat 32 3 from rfl, h3]

end Sys2Proof.Machine
end

