-- ==== Sys2Proof/Laws/Regs.lean ====
section
/-! SUPPORT. Reading a register after writing one, for every window (rules R22 to R24), and the parity of registers. -/

namespace Sys2Proof.Machine

/-! ### Parity flags (rules R450, R457) -/

section

variable {n : Nat} (p : ParityFlags n) (i j : Nat)

theorem getLsbD_bit : (ParityFlags.bit n i).getLsbD j = (decide (i < n) && decide (i = j)) := BitVec.getLsbD_twoPow i j

/-- Clearing one bit of a mask. -/
theorem getLsbD_clear (x : BitVec n) : (x &&& ~~~ParityFlags.bit n i).getLsbD j = (x.getLsbD j && !decide (j = i)) := by
  rw [BitVec.getLsbD_and, BitVec.getLsbD_not, getLsbD_bit]
  by_cases hj : j < n
  · by_cases e : j = i
    · subst e; simp [hj]
    · simp [hj, e, Ne.symm e]
  · simp [BitVec.getLsbD_of_ge x j (by omega)]

theorem bad_written : (p.written i).bad.getLsbD j = (p.bad.getLsbD j && !decide (j = i)) := getLsbD_clear i j p.bad

theorem unwritten_written : (p.written i).unwritten.getLsbD j = (p.unwritten.getLsbD j && !decide (j = i)) :=
  getLsbD_clear i j p.unwritten

/-- A write of a register touches no other register's flags. -/
theorem sameBut_written : p.SameBut (p.written i) [i] := fun j hj => by
  have : j ≠ i := by simpa using hj
  simp [bad_written, unwritten_written, this]

theorem sameBut_refl (l : List Nat) : p.SameBut p l := fun _ _ => ⟨rfl, rfl⟩

theorem ParityFlags.SameBut.trans {p q r : ParityFlags n} {l m : List Nat} (h : p.SameBut q l) (h' : q.SameBut r m) :
    p.SameBut r (l ++ m) := fun j hj =>
  have a := h j fun hl => hj (List.mem_append_left m hl)
  have b := h' j fun hm => hj (List.mem_append_right l hm)
  ⟨b.1.trans a.1, b.2.trans a.2⟩

theorem ParityFlags.SameBut.mono {p q : ParityFlags n} {l m : List Nat} (h : p.SameBut q l) (hs : l ⊆ m) : p.SameBut q m :=
  fun j hj => h j fun hl => hj (hs hl)

end

/-! ### Registers -/

theorem winIndex_lt (w : Window) (n : RegNum) : winIndex w n < 128 := Nat.mod_lt _ (by decide)

/-- Equal physical numbers are the same storage: both globals of one number, or both window registers of one index. -/
theorem regIndex_eq_iff (w w' : Window) (n n' : RegNum) :
    regIndex w n = regIndex w' n' ↔
      (n.toNat < 8 ∧ n' = n) ∨ (8 ≤ n.toNat ∧ 8 ≤ n'.toNat ∧ winIndex w n = winIndex w' n') := by
  have := winIndex_lt w n
  have := winIndex_lt w' n'
  unfold regIndex
  constructor
  · intro h
    split at h <;> split at h
    · exact .inl ⟨‹_›, BitVec.eq_of_toNat_eq h.symm⟩
    all_goals omega
  · rintro (⟨h, rfl⟩ | ⟨h, h', e⟩)
    · simp [h]
    · rw [if_neg (by omega), if_neg (by omega), e]

/-- Writing a register makes every name of its storage read the value, r[0] excepted. -/
theorem readRegIn_writeRegIn (s : State) (w w' : Window) (n n' : RegNum) (v : Word) :
    (s.writeRegIn w n v).readRegIn w' n' =
      if n' ≠ 0#5 ∧ regIndex w' n' = regIndex w n then v else s.readRegIn w' n' := by
  unfold State.readRegIn State.writeRegIn
  by_cases h0 : n' = 0#5
  · simp [h0]
  · by_cases hn' : n'.toNat < 8 <;> by_cases hn : n.toNat < 8
    · by_cases e : n' = n
      · subst e
        simp [h0, hn', regIndex]
      · have e' : regIndex w' n' ≠ regIndex w n := by
          simp only [regIndex, hn, hn', if_true]
          exact fun h => e (BitVec.eq_of_toNat_eq h)
        have e2 : n.toNat ≠ n'.toNat := fun h => e (BitVec.eq_of_toNat_eq h.symm)
        simp only [h0, hn', hn, e', dif_pos, if_false, and_false]
        split <;> simp [e2]
    · have e' : regIndex w' n' ≠ regIndex w n := by simp only [regIndex, hn, hn', if_true, if_false]; omega
      simp [h0, hn', hn, e']
    · have e' : regIndex w' n' ≠ regIndex w n := by simp only [regIndex, hn, hn', if_true, if_false]; omega
      simp [h0, hn', hn, e']
      rfl
    · have e' : regIndex w' n' = regIndex w n ↔ winIndex w n = winIndex w' n' := by
        simp only [regIndex, hn, hn', if_false]; omega
      simp only [h0, hn', hn, e', dif_neg, not_false_eq_true, if_false, ne_eq, true_and]
      by_cases e : winIndex w n = winIndex w' n'
      · simp [e]
      · rw [if_neg e]; exact Vector.getElem_set_ne _ _ e

/-- A register written through the current window reads the value, unless it is r[0]. -/
theorem readReg_writeReg_self (s : State) (n : RegNum) (v : Word) :
    (s.writeReg n v).readReg n = if n = 0#5 then 0#32 else v := by
  unfold State.readReg State.writeReg
  rw [readRegIn_writeRegIn]
  by_cases h : n = 0#5 <;> simp [h, State.writeRegIn]

/-- Writing one register leaves every other storage alone. -/
theorem sameRegsBut_writeRegIn (s : State) (w : Window) (n : RegNum) (v : Word) :
    s.SameRegsBut (s.writeRegIn w n v) [regIndex w n] where
  value := by
    intro w' n' h
    rw [readRegIn_writeRegIn, if_neg]
    rintro ⟨-, e⟩
    exact h (by simp [e])
  parity := by
    rw [State.writeRegIn_regParity]
    split
    · exact sameBut_refl _ _
    · exact sameBut_written _ _

/-- Registers are read from the globals and the windows alone. -/
theorem readRegIn_congr {s t : State} (hg : t.globals = s.globals) (hw : t.windows = s.windows) (w : Window) (n : RegNum) :
    t.readRegIn w n = s.readRegIn w n := by unfold State.readRegIn; simp only [hg, hw]; rfl

/-- A state with the same globals, windows and parity has the same registers. -/
theorem sameRegsBut_writeReg (s : State) (n : RegNum) (v : Word) :
    s.SameRegsBut (s.writeReg n v) [regIndex s.psr.cwp n] := sameRegsBut_writeRegIn s s.psr.cwp n v

theorem sameRegsBut_of_eq {s t : State} {l : List Nat} (hg : t.globals = s.globals) (hw : t.windows = s.windows)
    (hp : t.regParity = s.regParity) : s.SameRegsBut t l where
  value w n _ := readRegIn_congr hg hw w n
  parity := by rw [hp]; exact sameBut_refl _ _

theorem sameRegsBut_refl (s : State) (l : List Nat) : s.SameRegsBut s l := sameRegsBut_of_eq rfl rfl rfl

theorem State.SameRegsBut.trans {s t u : State} {l m : List Nat} (h : s.SameRegsBut t l) (h' : t.SameRegsBut u m) :
    s.SameRegsBut u (l ++ m) where
  value w n hn :=
    (h'.value w n fun hm => hn (List.mem_append_right l hm)).trans (h.value w n fun hl => hn (List.mem_append_left m hl))
  parity := h.parity.trans h'.parity

theorem State.SameRegsBut.mono {s t : State} {l m : List Nat} (h : s.SameRegsBut t l) (hs : l ⊆ m) : s.SameRegsBut t m where
  value w n hn := h.value w n fun hl => hn (hs hl)
  parity := h.parity.mono hs

/-- Only globals, windows and parity matter for the registers of the later state. -/
theorem State.SameRegsBut.of_eq {s t u : State} {l : List Nat} (h : s.SameRegsBut t l) (hg : u.globals = t.globals)
    (hw : u.windows = t.windows) (hp : u.regParity = t.regParity) : s.SameRegsBut u l where
  value w n hn := (readRegIn_congr hg hw w n).trans (h.value w n hn)
  parity := by rw [hp]; exact h.parity

/-! ### Pairs (rule R186) -/

theorem evenReg_toNat (n : RegNum) : (evenReg n).toNat = 2 * (n.toNat / 2) := by revert n; decide

theorem oddReg_toNat (n : RegNum) : (oddReg n).toNat = 2 * (n.toNat / 2) + 1 := by revert n; decide

theorem evenReg_ne_oddReg (n : RegNum) : evenReg n ≠ oddReg n := by revert n; decide

theorem oddReg_ne_zero (n : RegNum) : oddReg n ≠ 0#5 := by revert n; decide

/-- The members of a pair are different storage in every window. -/
theorem regIndex_pair_ne (w : Window) (n : RegNum) : regIndex w (evenReg n) ≠ regIndex w (oddReg n) := by
  revert w n; decide

/-- Writing a pair: both registers read their word, r[0] excepted, and no other storage changes. -/
theorem pair_writeReg (s : State) (n : RegNum) (hi lo : Word) :
    s.SameRegsBut ((s.writeReg (evenReg n) hi).writeReg (oddReg n) lo)
        [regIndex s.psr.cwp (evenReg n), regIndex s.psr.cwp (oddReg n)] ∧
      ((s.writeReg (evenReg n) hi).writeReg (oddReg n) lo).readReg (evenReg n) =
        (if evenReg n = 0#5 then 0#32 else hi) ∧
      ((s.writeReg (evenReg n) hi).writeReg (oddReg n) lo).readReg (oddReg n) = lo := by
  refine ⟨(sameRegsBut_writeRegIn s _ _ _).trans (sameRegsBut_writeRegIn _ _ _ _), ?_, ?_⟩
  · show (((s.writeReg (evenReg n) hi).writeRegIn s.psr.cwp (oddReg n) lo).readRegIn s.psr.cwp (evenReg n)) = _
    rw [readRegIn_writeRegIn, if_neg fun h => regIndex_pair_ne _ _ h.2]
    exact readReg_writeReg_self s (evenReg n) hi
  · rw [readReg_writeReg_self, if_neg (oddReg_ne_zero n)]

end Sys2Proof.Machine
end

