-- ==== Sys2Proof/Laws/Trap.lean ====
section
/-! SUPPORT. What taking a trap does, said once (rules R420, R430), and alignment. -/

namespace Sys2Proof.Machine

/-- Taking a trap is the entry sequence, whatever the state. -/
theorem traps_takeTrap (k : Trap) (s : State) : State.Traps k s (s.takeTrap k) := by
  have hr : ∀ w n, (s.takeTrap k).readRegIn w n =
      ((s.writeRegIn (s.psr.cwp - 1#3) 17#5 s.pc).writeRegIn (s.psr.cwp - 1#3) 18#5 s.npc).readRegIn w n :=
    fun w n => (readRegIn_congr rfl rfl w n)
  have hne : ∀ w, regIndex w 17#5 ≠ regIndex w 18#5 := by decide
  constructor
  case savedPc =>
    unfold State.readReg
    rw [hr, State.takeTrap_psr, readRegIn_writeRegIn, readRegIn_writeRegIn]
    simp [hne]
  case savedNpc =>
    unfold State.readReg
    rw [hr, State.takeTrap_psr, readRegIn_writeRegIn]
    simp
  case regs => exact ((sameRegsBut_writeRegIn s _ _ _).trans (sameRegsBut_writeRegIn _ _ _ _)).of_eq rfl rfl rfl
  case memory => exact fun _ _ => rfl
  all_goals rfl

/-- Raising a trap has a next state, which the entry sequence describes. -/
theorem raise_eq (k : Trap) (s : State) : s.raise k = .next (s.takeTrap k) := rfl

theorem exists_traps_raise (k : Trap) (s : State) : ∃ t, s.raise k = .next t ∧ State.Traps k s t :=
  ⟨_, rfl, traps_takeTrap k s⟩

/-- Entering a trap, seen from the outside. -/
theorem State.Traps.entered {k : Trap} {s t : State} (h : State.Traps k s t) : State.EnteredTrap s t where
  et := by rw [h.psr]
  supervisor := by rw [h.psr]
  ps := by rw [h.psr]
  cwp := by rw [h.psr]
  pc := by rw [h.pc, h.tba, h.tt]
  npc := by rw [h.npc, h.pc]
  annul := h.annul
  tba := h.tba
  wim := h.wim
  mode := h.mode

/-! ### Alignment -/

theorem and_three_eq_zero_iff (a : Word) : a &&& 3#32 = 0#32 ↔ a.toNat % 4 = 0 := by
  rw [← BitVec.toNat_inj, BitVec.toNat_and]
  exact (Nat.and_two_pow_sub_one_eq_mod a.toNat 2) ▸ Iff.rfl

theorem aligned_word_iff (a : Word) : Size.word.aligned a = true ↔ a &&& 3#32 = 0#32 := by
  rw [and_three_eq_zero_iff]; simp [Size.aligned, Size.bytes]

theorem aligned_half_iff (a : Word) : Size.half.aligned a = true ↔ a &&& 1#32 = 0#32 := by
  rw [← BitVec.toNat_inj, BitVec.toNat_and]
  simp only [Size.aligned, Size.bytes, beq_iff_eq]
  exact (Nat.and_two_pow_sub_one_eq_mod a.toNat 1) ▸ Iff.rfl

theorem aligned_dbl_iff (a : Word) : Size.dbl.aligned a = true ↔ a &&& 7#32 = 0#32 := by
  rw [← BitVec.toNat_inj, BitVec.toNat_and]
  simp only [Size.aligned, Size.bytes, beq_iff_eq]
  exact (Nat.and_two_pow_sub_one_eq_mod a.toNat 3) ▸ Iff.rfl

theorem aligned_add_four {a : Word} (h : a &&& 3#32 = 0#32) : (a + 4#32) &&& 3#32 = 0#32 := by
  rw [and_three_eq_zero_iff] at *
  rw [BitVec.toNat_add]
  simp only [BitVec.toNat_ofNat]
  omega

theorem aligned_add {a b : Word} (h : a &&& 3#32 = 0#32) (h' : b &&& 3#32 = 0#32) : (a + b) &&& 3#32 = 0#32 := by
  rw [and_three_eq_zero_iff] at *
  rw [BitVec.toNat_add]
  omega

theorem aligned_freeAligned (k : Nat) : freeAligned k &&& 3#32 = 0#32 := by
  unfold freeAligned
  rw [BitVec.and_assoc, show (0xFFFFFFFC#32 &&& 3#32) = 0#32 from rfl, BitVec.and_zero]

theorem aligned_vector (s : State) (tt : BitVec 8) : s.vector tt &&& 3#32 = 0#32 := by
  rw [and_three_eq_zero_iff]
  unfold State.vector
  rw [BitVec.toNat_append]
  simp only [BitVec.toNat_ofNat, Nat.zero_mod, Nat.or_zero, Nat.shiftLeft_eq]
  omega

theorem aligned_branchBase {s : State} (h : s.pc &&& 3#32 = 0#32) : s.branchBase &&& 3#32 = 0#32 := by
  unfold State.branchBase
  split
  · exact h
  · exact aligned_add_four h

theorem aligned_branchTarget {s : State} (h : s.pc &&& 3#32 = 0#32) (d : BitVec 22) :
    s.branchTarget d &&& 3#32 = 0#32 := by
  refine aligned_add (aligned_branchBase h) ?_
  apply BitVec.eq_of_getLsbD_eq
  intro i hi
  rcases (by omega : i = 0 ∨ i = 1 ∨ 2 ≤ i) with rfl | rfl | h2
  · rw [BitVec.getLsbD_and, BitVec.getLsbD_signExtend, BitVec.getLsbD_append]; simp
  · rw [BitVec.getLsbD_and, BitVec.getLsbD_signExtend, BitVec.getLsbD_append]; simp
  · have : (3#32).getLsbD i = false := by
      revert h2; revert i; decide
    simp [this]

theorem aligned_callTarget {s : State} (h : s.pc &&& 3#32 = 0#32) (d : BitVec 30) :
    s.callTarget d &&& 3#32 = 0#32 := by
  refine aligned_add (aligned_branchBase h) ?_
  rw [and_three_eq_zero_iff, BitVec.toNat_append]
  simp only [BitVec.toNat_ofNat, Nat.zero_mod, Nat.or_zero, Nat.shiftLeft_eq]
  omega

end Sys2Proof.Machine
end

