-- ==== Sys2Proof/Laws/Access.lean ====
section
/-! SUPPORT. What each operation that ends an instruction can answer: every one answers a next state. -/

namespace Sys2Proof.Machine

/-- A result that is a next state with a property. -/
def Yields (r : Result) (P : State → Prop) : Prop := ∃ t, r = .next t ∧ P t

theorem yields_next {P : State → Prop} {t : State} (h : P t) : Yields (.next t) P := ⟨t, rfl, h⟩

theorem Yields.mono {r : Result} {P Q : State → Prop} (h : Yields r P) (hpq : ∀ t, P t → Q t) : Yields r Q :=
  h.imp fun t ht => ⟨ht.1, hpq t ht.2⟩

theorem Yields.of_next {r : Result} {P : State → Prop} {t : State} (h : Yields r P) (e : r = .next t) : P t := by
  obtain ⟨u, hu, hp⟩ := h
  rw [e] at hu
  cases hu
  exact hp

theorem yields_raise {P : State → Prop} {k : Trap} {s : State} (h : P (s.takeTrap k)) : Yields (s.raise k) P := ⟨_, rfl, h⟩

theorem yields_complete {P : State → Prop} {s : State} (h : P s.retire.advance) : Yields s.complete P := ⟨_, rfl, h⟩

theorem yields_jump {P : State → Prop} {s : State} {a : Word} (h : P (s.transfer a).retire) : Yields (s.jump a) P :=
  ⟨_, rfl, h⟩

/-- A privileged instruction traps in user mode and goes on in supervisor mode (rule R480). -/
theorem yields_supervisorOnly {P : State → Prop} {s : State} {r : Result}
    (hu : s.psr.s = false → P (s.takeTrap .privilegedInstruction)) (hs : s.psr.s = true → Yields r P) :
    Yields (s.supervisorOnly r) P := by
  unfold State.supervisorOnly
  split
  · exact hs ‹_›
  · exact yields_raise (hu (Bool.eq_false_iff.mpr ‹_›))

/-- A misaligned address traps and an aligned one goes on (rule R88). -/
theorem yields_whenAligned {P : State → Prop} {s : State} {z : Size} {ea : Word} {r : Result}
    (hm : z.aligned ea = false → P (s.takeTrap .memAddressNotAligned)) (ha : z.aligned ea = true → Yields r P) :
    Yields (s.whenAligned z ea r) P := by
  unfold State.whenAligned
  split
  · exact ha ‹_›
  · exact yields_raise (hm (Bool.eq_false_iff.mpr ‹_›))

/-- A read request is refused, which traps, or accepted (rule R100). -/
theorem yields_readAccess {P : State → Prop} {s : State} {asi : Asi} {ea : Word} {z : Size} {l k : Bool}
    {f : State → State} {go : State → Result}
    (hr : P (((f s).request (s.dataRequest asi ea z l k none)).takeTrap .dataAccessException))
    (hg : s.refuses (s.dataRequest asi ea z l k none) = false → Yields (go (s.request (s.dataRequest asi ea z l k none))) P) :
    Yields (s.readAccess asi ea z l k f go) P := by
  simp only [State.readAccess]
  split
  · exact yields_raise hr
  · exact hg (Bool.eq_false_iff.mpr ‹_›)

/-- A write request is refused, which traps with memory unchanged, or accepted (rules R100, R102). -/
theorem yields_writeAccess {P : State → Prop} {s : State} {asi : Asi} {ea : Word} {z : Size} {l k : Bool} {bs : List Byte}
    {f : State → State} {go : State → Result}
    (hr : P (((f s).request (s.dataRequest asi ea z l k (some (busData bs)))).takeTrap .dataAccessException))
    (hg : s.refuses (s.dataRequest asi ea z l k (some (busData bs))) = false →
      Yields (go ((s.request (s.dataRequest asi ea z l k (some (busData bs)))).storeBytes asi ea bs)) P) :
    Yields (s.writeAccess asi ea z l k bs f go) P := by
  simp only [State.writeAccess]
  split
  · exact yields_raise hr
  · exact hg (Bool.eq_false_iff.mpr ‹_›)

/-! ### When the checks pass -/

theorem supervisorOnly_of_supervisor {s : State} {r : Result} (h : s.psr.s = true) : s.supervisorOnly r = r := by
  simp [State.supervisorOnly, h]

theorem supervisorOnly_of_user {s : State} {r : Result} (h : s.psr.s = false) :
    s.supervisorOnly r = s.raise .privilegedInstruction := by simp [State.supervisorOnly, h]

theorem whenAligned_of_aligned {s : State} {z : Size} {ea : Word} {r : Result} (h : z.aligned ea = true) :
    s.whenAligned z ea r = r := by simp [State.whenAligned, h]

theorem whenAligned_of_misaligned {s : State} {z : Size} {ea : Word} {r : Result} (h : z.aligned ea = false) :
    s.whenAligned z ea r = s.raise .memAddressNotAligned := by simp [State.whenAligned, h]

theorem readAccess_of_accepted {s : State} {asi : Asi} {ea : Word} {z : Size} {l k : Bool} {f : State → State}
    {go : State → Result} (h : s.refuses (s.dataRequest asi ea z l k none) = false) :
    s.readAccess asi ea z l k f go = go (s.request (s.dataRequest asi ea z l k none)) := by simp [State.readAccess, h]

theorem readAccess_of_refused {s : State} {asi : Asi} {ea : Word} {z : Size} {l k : Bool} {f : State → State}
    {go : State → Result} (h : s.refuses (s.dataRequest asi ea z l k none) = true) :
    s.readAccess asi ea z l k f go = ((f s).request (s.dataRequest asi ea z l k none)).raise .dataAccessException := by
  simp [State.readAccess, h]

theorem writeAccess_of_accepted {s : State} {asi : Asi} {ea : Word} {z : Size} {l k : Bool} {bs : List Byte}
    {f : State → State} {go : State → Result} (h : s.refuses (s.dataRequest asi ea z l k (some (busData bs))) = false) :
    s.writeAccess asi ea z l k bs f go =
      go ((s.request (s.dataRequest asi ea z l k (some (busData bs)))).storeBytes asi ea bs) := by
  simp [State.writeAccess, h]

theorem writeAccess_of_refused {s : State} {asi : Asi} {ea : Word} {z : Size} {l k : Bool} {bs : List Byte}
    {f : State → State} {go : State → Result} (h : s.refuses (s.dataRequest asi ea z l k (some (busData bs))) = true) :
    s.writeAccess asi ea z l k bs f go =
      ((f s).request (s.dataRequest asi ea z l k (some (busData bs)))).raise .dataAccessException := by
  simp [State.writeAccess, h]

/-- What the memory system answers depends on the platform and the request alone. -/
theorem refuses_congr {s t : State} (h : t.platform = s.platform) (r : BusRequest) : t.refuses r = s.refuses r := by
  simp only [State.refuses, h]

/-- A platform that denies nothing accepts every access of the shared memory (decision D10). -/
theorem accepts_shared {s : State} (hd : s.platform.deny = []) {r : BusRequest} (h : sharedAsi r.asi = true) :
    s.refuses r = false := by simp [State.refuses, hd, h]

end Sys2Proof.Machine
end

