-- ==== Sys2Proof/Laws/Decode.lean ====
section
/-! SUPPORT. The fields of the words that the encoder builds (rules R131 to R134), and the four bytes of a word. -/

namespace Sys2Proof

/-- Bits taken from the low part of a concatenation. -/
theorem extract_append_low {m n : Nat} (x : BitVec m) (y : BitVec n) {k l : Nat} (h : k + l ≤ n) :
    (x ++ y).extractLsb' k l = y.extractLsb' k l := by
  apply BitVec.eq_of_getLsbD_eq
  intro i hi
  simp only [BitVec.getLsbD_extractLsb', BitVec.getLsbD_append, show k + i < n by omega, if_true]

/-- Bits taken from the high part of a concatenation. -/
theorem extract_append_high {m n : Nat} (x : BitVec m) (y : BitVec n) {k l : Nat} (h : n ≤ k) :
    (x ++ y).extractLsb' k l = x.extractLsb' (k - n) l := by
  apply BitVec.eq_of_getLsbD_eq
  intro i hi
  simp only [BitVec.getLsbD_extractLsb', BitVec.getLsbD_append, show ¬k + i < n by omega, if_false,
    show k + i - n = k - n + i by omega]

theorem extract_all {n : Nat} (x : BitVec n) : x.extractLsb' 0 n = x := by
  apply BitVec.eq_of_getLsbD_eq
  intro i hi
  simp only [BitVec.getLsbD_extractLsb', hi, Nat.zero_add, decide_true, Bool.true_and]

/-! ### Format 3 -/

section Format3

variable (op : BitVec 2) (rd : RegNum) (op3 : BitVec 6) (rs1 : RegNum) (low : BitVec 14)

theorem fieldOp_fmt3 : fieldOp (fmt3 op rd op3 rs1 low) = op := by
  show (op ++ rd ++ op3 ++ rs1 ++ low).extractLsb' 30 2 = op
  rw [extract_append_high _ _ (by decide), extract_append_high _ _ (by decide), extract_append_high _ _ (by decide),
    extract_append_high _ _ (by decide), extract_all]

theorem fieldRd_fmt3 : fieldRd (fmt3 op rd op3 rs1 low) = rd := by
  show (op ++ rd ++ op3 ++ rs1 ++ low).extractLsb' 25 5 = rd
  rw [extract_append_high _ _ (by decide), extract_append_high _ _ (by decide), extract_append_high _ _ (by decide),
    extract_append_low _ _ (by decide), extract_all]

theorem fieldCond_fmt3 : fieldCond (fmt3 op rd op3 rs1 low) = rd.extractLsb' 0 4 := by
  show (op ++ rd ++ op3 ++ rs1 ++ low).extractLsb' 25 4 = _
  rw [extract_append_high _ _ (by decide), extract_append_high _ _ (by decide), extract_append_high _ _ (by decide),
    extract_append_low _ _ (by decide)]

theorem fieldOp3_fmt3 : fieldOp3 (fmt3 op rd op3 rs1 low) = op3 := by
  show (op ++ rd ++ op3 ++ rs1 ++ low).extractLsb' 19 6 = op3
  rw [extract_append_high _ _ (by decide), extract_append_high _ _ (by decide), extract_append_low _ _ (by decide),
    extract_all]

theorem fieldRs1_fmt3 : fieldRs1 (fmt3 op rd op3 rs1 low) = rs1 := by
  show (op ++ rd ++ op3 ++ rs1 ++ low).extractLsb' 14 5 = rs1
  rw [extract_append_high _ _ (by decide), extract_append_low _ _ (by decide), extract_all]

theorem extract_fmt3 {k l : Nat} (h : k + l ≤ 14) : (fmt3 op rd op3 rs1 low).extractLsb' k l = low.extractLsb' k l :=
  extract_append_low (op ++ rd ++ op3 ++ rs1) low h

theorem fieldOp2_fmt3 (o : Operand2) : fieldOp2 (fmt3 op rd op3 rs1 (lowOp2 o)) = o := by
  have e {k l : Nat} (h : k + l ≤ 14) := extract_fmt3 op rd op3 rs1 (lowOp2 o) h
  unfold fieldOp2 fieldI fieldSimm13 fieldRs2
  rw [e (by decide), e (by decide), e (by decide)]
  cases o with
  | reg r =>
    rw [show (lowOp2 (.reg r)).extractLsb' 13 1 = 0#1 from extract_append_high 0#9 r (by decide), if_neg (by decide)]
    exact congrArg Operand2.reg ((extract_append_low 0#9 r (by decide)).trans (extract_all r))
  | imm c =>
    rw [show (lowOp2 (.imm c)).extractLsb' 13 1 = 1#1 from extract_append_high 1#1 c (by decide), if_pos rfl]
    exact congrArg Operand2.imm ((extract_append_low 1#1 c (by decide)).trans (extract_all c))

theorem fieldShift_fmt3 (o : ShiftCount) : fieldShift (fmt3 op rd op3 rs1 (lowShift o)) = o := by
  have e {k l : Nat} (h : k + l ≤ 14) := extract_fmt3 op rd op3 rs1 (lowShift o) h
  unfold fieldShift fieldI fieldRs2
  rw [e (by decide), e (by decide)]
  cases o with
  | reg r =>
    rw [show (lowShift (.reg r)).extractLsb' 13 1 = 0#1 from extract_append_high 0#9 r (by decide), if_neg (by decide)]
    exact congrArg ShiftCount.reg ((extract_append_low 0#9 r (by decide)).trans (extract_all r))
  | imm c =>
    rw [show (lowShift (.imm c)).extractLsb' 13 1 = 1#1 from extract_append_high (1#1 ++ 0#8) c (by decide), if_pos rfl]
    exact congrArg ShiftCount.imm ((extract_append_low (1#1 ++ 0#8) c (by decide)).trans (extract_all c))

theorem fieldI_alt (asi : Asi) (rs2 : RegNum) : fieldI (fmt3 op rd op3 rs1 (lowAlt asi rs2)) = 0#1 := by
  unfold fieldI
  rw [extract_fmt3 _ _ _ _ _ (by decide)]
  exact (extract_append_high (0#1 ++ asi) rs2 (by decide)).trans (extract_append_high 0#1 asi (by decide))

theorem fieldAsi_alt (asi : Asi) (rs2 : RegNum) : fieldAsi (fmt3 op rd op3 rs1 (lowAlt asi rs2)) = asi := by
  unfold fieldAsi
  rw [extract_fmt3 _ _ _ _ _ (by decide)]
  exact (extract_append_high (0#1 ++ asi) rs2 (by decide)).trans
    ((extract_append_low 0#1 asi (by decide)).trans (extract_all asi))

theorem fieldRs2_alt (asi : Asi) (rs2 : RegNum) : fieldRs2 (fmt3 op rd op3 rs1 (lowAlt asi rs2)) = rs2 := by
  unfold fieldRs2
  rw [extract_fmt3 _ _ _ _ _ (by decide)]
  exact (extract_append_low (0#1 ++ asi) rs2 (by decide)).trans (extract_all rs2)

theorem fieldOpf_fmt3 (opf : BitVec 9) (rs2 : RegNum) : fieldOpf (fmt3 op rd op3 rs1 (opf ++ rs2)) = opf := by
  unfold fieldOpf
  rw [extract_fmt3 _ _ _ _ _ (by decide)]
  exact (extract_append_high opf rs2 (by decide)).trans (extract_all opf)

theorem fieldRs2_opf (opf : BitVec 9) (rs2 : RegNum) : fieldRs2 (fmt3 op rd op3 rs1 (opf ++ rs2)) = rs2 := by
  unfold fieldRs2
  rw [extract_fmt3 _ _ _ _ _ (by decide)]
  exact (extract_append_low opf rs2 (by decide)).trans (extract_all rs2)

end Format3

/-! ### Format 2 -/

section Format2

variable (a : Bool) (cond : BitVec 4) (rd : RegNum) (op2 : BitVec 3) (c : BitVec 22)

theorem fieldOp_fmt2Branch : fieldOp (fmt2Branch a cond op2 c) = 0#2 := by
  show (0#2 ++ BitVec.ofBool a ++ cond ++ op2 ++ c).extractLsb' 30 2 = _
  rw [extract_append_high _ _ (by decide), extract_append_high _ _ (by decide), extract_append_high _ _ (by decide),
    extract_append_high _ _ (by decide), extract_all]

theorem fieldOpTwo_fmt2Branch : fieldOpTwo (fmt2Branch a cond op2 c) = op2 := by
  show (0#2 ++ BitVec.ofBool a ++ cond ++ op2 ++ c).extractLsb' 22 3 = _
  rw [extract_append_high _ _ (by decide), extract_append_low _ _ (by decide), extract_all]

theorem fieldCond_fmt2Branch : fieldCond (fmt2Branch a cond op2 c) = cond := by
  show (0#2 ++ BitVec.ofBool a ++ cond ++ op2 ++ c).extractLsb' 25 4 = _
  rw [extract_append_high _ _ (by decide), extract_append_high _ _ (by decide), extract_append_low _ _ (by decide),
    extract_all]

theorem fieldA_fmt2Branch : fieldA (fmt2Branch a cond op2 c) = a := by
  show (0#2 ++ BitVec.ofBool a ++ cond ++ op2 ++ c).getLsbD 29 = _
  simp only [BitVec.getLsbD_append]
  cases a <;> rfl

theorem fieldImm22_fmt2Branch : fieldImm22 (fmt2Branch a cond op2 c) = c :=
  (extract_append_low (0#2 ++ BitVec.ofBool a ++ cond ++ op2) c (by decide)).trans (extract_all c)

theorem fieldOp_fmt2Imm : fieldOp (fmt2Imm rd op2 c) = 0#2 := by
  show (0#2 ++ rd ++ op2 ++ c).extractLsb' 30 2 = _
  rw [extract_append_high _ _ (by decide), extract_append_high _ _ (by decide), extract_append_high _ _ (by decide),
    extract_all]

theorem fieldOpTwo_fmt2Imm : fieldOpTwo (fmt2Imm rd op2 c) = op2 := by
  show (0#2 ++ rd ++ op2 ++ c).extractLsb' 22 3 = _
  rw [extract_append_high _ _ (by decide), extract_append_low _ _ (by decide), extract_all]

theorem fieldRd_fmt2Imm : fieldRd (fmt2Imm rd op2 c) = rd := by
  show (0#2 ++ rd ++ op2 ++ c).extractLsb' 25 5 = _
  rw [extract_append_high _ _ (by decide), extract_append_high _ _ (by decide), extract_append_low _ _ (by decide),
    extract_all]

theorem fieldImm22_fmt2Imm : fieldImm22 (fmt2Imm rd op2 c) = c :=
  (extract_append_low (0#2 ++ rd ++ op2) c (by decide)).trans (extract_all c)

end Format2

/-! ### CALL and bytes -/

theorem fieldOp_call (d : BitVec 30) : fieldOp (1#2 ++ d) = 1#2 :=
  (extract_append_high 1#2 d (by decide)).trans (extract_all _)

theorem fieldDisp30_call (d : BitVec 30) : fieldDisp30 (1#2 ++ d) = d :=
  (extract_append_low 1#2 d (by decide)).trans (extract_all _)

/-- A word is its four bytes, the most significant first. -/
theorem wordOfBytes_extract (w : Word) :
    wordOfBytes (w.extractLsb' 24 8) (w.extractLsb' 16 8) (w.extractLsb' 8 8) (w.extractLsb' 0 8) = w := by
  apply BitVec.eq_of_getLsbD_eq
  intro i hi
  simp only [wordOfBytes, BitVec.getLsbD_append, BitVec.getLsbD_extractLsb']
  rcases (by omega : i < 8 ∨ (8 ≤ i ∧ i < 16) ∨ (16 ≤ i ∧ i < 24) ∨ 24 ≤ i) with h | h | h | h
  · simp [h]
  · simp [show ¬i < 8 by omega, show i - 8 < 8 by omega, show 8 + (i - 8) = i by omega]
  · simp [show ¬i < 8 by omega, show ¬i - 8 < 8 by omega, show i - 8 - 8 < 8 by omega,
      show 16 + (i - 8 - 8) = i by omega]
  · simp [show ¬i < 8 by omega, show ¬i - 8 < 8 by omega, show ¬i - 8 - 8 < 8 by omega,
      show i - 8 - 8 - 8 < 8 by omega, show 24 + (i - 8 - 8 - 8) = i by omega]

/-- The byte decoder on the bytes of a word. -/
theorem decode_bytesOfWord (w : Word) (rest : List Byte) :
    decode (bytesOfWord w ++ rest) =
      match decodeWord w with
      | .ok i => .ok (i, rest)
      | .error e => .error e := by
  cases h : decodeWord w <;> simp [bytesOfWord, decode, wordOfBytes_extract, h]

end Sys2Proof
end

