-- ==== Sys2Proof/Laws/Dispatch.lean ====
section
/-! SUPPORT. The meaning of each instruction, one equation each. -/

namespace Sys2Proof.Machine

variable (s : State)

theorem exec_unimp const22 : exec (.unimp const22) s = execUnimp const22 s := rfl
theorem exec_sethi rd imm22 : exec (.sethi rd imm22) s = execSethi rd imm22 s := rfl
theorem exec_bn a disp22 : exec (.bn a disp22) s = execBn a disp22 s := rfl
theorem exec_be a disp22 : exec (.be a disp22) s = execBe a disp22 s := rfl
theorem exec_ble a disp22 : exec (.ble a disp22) s = execBle a disp22 s := rfl
theorem exec_bl a disp22 : exec (.bl a disp22) s = execBl a disp22 s := rfl
theorem exec_bleu a disp22 : exec (.bleu a disp22) s = execBleu a disp22 s := rfl
theorem exec_bcs a disp22 : exec (.bcs a disp22) s = execBcs a disp22 s := rfl
theorem exec_bneg a disp22 : exec (.bneg a disp22) s = execBneg a disp22 s := rfl
theorem exec_bvs a disp22 : exec (.bvs a disp22) s = execBvs a disp22 s := rfl
theorem exec_ba a disp22 : exec (.ba a disp22) s = execBa a disp22 s := rfl
theorem exec_bne a disp22 : exec (.bne a disp22) s = execBne a disp22 s := rfl
theorem exec_bg a disp22 : exec (.bg a disp22) s = execBg a disp22 s := rfl
theorem exec_bge a disp22 : exec (.bge a disp22) s = execBge a disp22 s := rfl
theorem exec_bgu a disp22 : exec (.bgu a disp22) s = execBgu a disp22 s := rfl
theorem exec_bcc a disp22 : exec (.bcc a disp22) s = execBcc a disp22 s := rfl
theorem exec_bpos a disp22 : exec (.bpos a disp22) s = execBpos a disp22 s := rfl
theorem exec_bvc a disp22 : exec (.bvc a disp22) s = execBvc a disp22 s := rfl
theorem exec_fbn a disp22 : exec (.fbn a disp22) s = execFbn a disp22 s := rfl
theorem exec_fbne a disp22 : exec (.fbne a disp22) s = execFbne a disp22 s := rfl
theorem exec_fblg a disp22 : exec (.fblg a disp22) s = execFblg a disp22 s := rfl
theorem exec_fbul a disp22 : exec (.fbul a disp22) s = execFbul a disp22 s := rfl
theorem exec_fbl a disp22 : exec (.fbl a disp22) s = execFbl a disp22 s := rfl
theorem exec_fbug a disp22 : exec (.fbug a disp22) s = execFbug a disp22 s := rfl
theorem exec_fbg a disp22 : exec (.fbg a disp22) s = execFbg a disp22 s := rfl
theorem exec_fbu a disp22 : exec (.fbu a disp22) s = execFbu a disp22 s := rfl
theorem exec_fba a disp22 : exec (.fba a disp22) s = execFba a disp22 s := rfl
theorem exec_fbe a disp22 : exec (.fbe a disp22) s = execFbe a disp22 s := rfl
theorem exec_fbue a disp22 : exec (.fbue a disp22) s = execFbue a disp22 s := rfl
theorem exec_fbge a disp22 : exec (.fbge a disp22) s = execFbge a disp22 s := rfl
theorem exec_fbuge a disp22 : exec (.fbuge a disp22) s = execFbuge a disp22 s := rfl
theorem exec_fble a disp22 : exec (.fble a disp22) s = execFble a disp22 s := rfl
theorem exec_fbule a disp22 : exec (.fbule a disp22) s = execFbule a disp22 s := rfl
theorem exec_fbo a disp22 : exec (.fbo a disp22) s = execFbo a disp22 s := rfl
theorem exec_cbn a disp22 : exec (.cbn a disp22) s = execCbn a disp22 s := rfl
theorem exec_cb123 a disp22 : exec (.cb123 a disp22) s = execCb123 a disp22 s := rfl
theorem exec_cb12 a disp22 : exec (.cb12 a disp22) s = execCb12 a disp22 s := rfl
theorem exec_cb13 a disp22 : exec (.cb13 a disp22) s = execCb13 a disp22 s := rfl
theorem exec_cb1 a disp22 : exec (.cb1 a disp22) s = execCb1 a disp22 s := rfl
theorem exec_cb23 a disp22 : exec (.cb23 a disp22) s = execCb23 a disp22 s := rfl
theorem exec_cb2 a disp22 : exec (.cb2 a disp22) s = execCb2 a disp22 s := rfl
theorem exec_cb3 a disp22 : exec (.cb3 a disp22) s = execCb3 a disp22 s := rfl
theorem exec_cba a disp22 : exec (.cba a disp22) s = execCba a disp22 s := rfl
theorem exec_cb0 a disp22 : exec (.cb0 a disp22) s = execCb0 a disp22 s := rfl
theorem exec_cb03 a disp22 : exec (.cb03 a disp22) s = execCb03 a disp22 s := rfl
theorem exec_cb02 a disp22 : exec (.cb02 a disp22) s = execCb02 a disp22 s := rfl
theorem exec_cb023 a disp22 : exec (.cb023 a disp22) s = execCb023 a disp22 s := rfl
theorem exec_cb01 a disp22 : exec (.cb01 a disp22) s = execCb01 a disp22 s := rfl
theorem exec_cb013 a disp22 : exec (.cb013 a disp22) s = execCb013 a disp22 s := rfl
theorem exec_cb012 a disp22 : exec (.cb012 a disp22) s = execCb012 a disp22 s := rfl
theorem exec_call disp30 : exec (.call disp30) s = execCall disp30 s := rfl
theorem exec_add rd rs1 op2 : exec (.add rd rs1 op2) s = execAdd rd rs1 op2 s := rfl
theorem exec_and rd rs1 op2 : exec (.and rd rs1 op2) s = execAnd rd rs1 op2 s := rfl
theorem exec_or rd rs1 op2 : exec (.or rd rs1 op2) s = execOr rd rs1 op2 s := rfl
theorem exec_xor rd rs1 op2 : exec (.xor rd rs1 op2) s = execXor rd rs1 op2 s := rfl
theorem exec_sub rd rs1 op2 : exec (.sub rd rs1 op2) s = execSub rd rs1 op2 s := rfl
theorem exec_andn rd rs1 op2 : exec (.andn rd rs1 op2) s = execAndn rd rs1 op2 s := rfl
theorem exec_orn rd rs1 op2 : exec (.orn rd rs1 op2) s = execOrn rd rs1 op2 s := rfl
theorem exec_xnor rd rs1 op2 : exec (.xnor rd rs1 op2) s = execXnor rd rs1 op2 s := rfl
theorem exec_addx rd rs1 op2 : exec (.addx rd rs1 op2) s = execAddx rd rs1 op2 s := rfl
theorem exec_subx rd rs1 op2 : exec (.subx rd rs1 op2) s = execSubx rd rs1 op2 s := rfl
theorem exec_addcc rd rs1 op2 : exec (.addcc rd rs1 op2) s = execAddcc rd rs1 op2 s := rfl
theorem exec_andcc rd rs1 op2 : exec (.andcc rd rs1 op2) s = execAndcc rd rs1 op2 s := rfl
theorem exec_orcc rd rs1 op2 : exec (.orcc rd rs1 op2) s = execOrcc rd rs1 op2 s := rfl
theorem exec_xorcc rd rs1 op2 : exec (.xorcc rd rs1 op2) s = execXorcc rd rs1 op2 s := rfl
theorem exec_subcc rd rs1 op2 : exec (.subcc rd rs1 op2) s = execSubcc rd rs1 op2 s := rfl
theorem exec_andncc rd rs1 op2 : exec (.andncc rd rs1 op2) s = execAndncc rd rs1 op2 s := rfl
theorem exec_orncc rd rs1 op2 : exec (.orncc rd rs1 op2) s = execOrncc rd rs1 op2 s := rfl
theorem exec_xnorcc rd rs1 op2 : exec (.xnorcc rd rs1 op2) s = execXnorcc rd rs1 op2 s := rfl
theorem exec_addxcc rd rs1 op2 : exec (.addxcc rd rs1 op2) s = execAddxcc rd rs1 op2 s := rfl
theorem exec_subxcc rd rs1 op2 : exec (.subxcc rd rs1 op2) s = execSubxcc rd rs1 op2 s := rfl
theorem exec_taddcc rd rs1 op2 : exec (.taddcc rd rs1 op2) s = execTaddcc rd rs1 op2 s := rfl
theorem exec_tsubcc rd rs1 op2 : exec (.tsubcc rd rs1 op2) s = execTsubcc rd rs1 op2 s := rfl
theorem exec_taddcctv rd rs1 op2 : exec (.taddcctv rd rs1 op2) s = execTaddcctv rd rs1 op2 s := rfl
theorem exec_tsubcctv rd rs1 op2 : exec (.tsubcctv rd rs1 op2) s = execTsubcctv rd rs1 op2 s := rfl
theorem exec_mulscc rd rs1 op2 : exec (.mulscc rd rs1 op2) s = execMulscc rd rs1 op2 s := rfl
theorem exec_sll rd rs1 cnt : exec (.sll rd rs1 cnt) s = execSll rd rs1 cnt s := rfl
theorem exec_srl rd rs1 cnt : exec (.srl rd rs1 cnt) s = execSrl rd rs1 cnt s := rfl
theorem exec_sra rd rs1 cnt : exec (.sra rd rs1 cnt) s = execSra rd rs1 cnt s := rfl
theorem exec_rdy rd : exec (.rdy rd) s = execRdy rd s := rfl
theorem exec_rdpsr rd : exec (.rdpsr rd) s = execRdpsr rd s := rfl
theorem exec_rdwim rd : exec (.rdwim rd) s = execRdwim rd s := rfl
theorem exec_rdtbr rd : exec (.rdtbr rd) s = execRdtbr rd s := rfl
theorem exec_wry rs1 op2 : exec (.wry rs1 op2) s = execWry rs1 op2 s := rfl
theorem exec_wrpsr rs1 op2 : exec (.wrpsr rs1 op2) s = execWrpsr rs1 op2 s := rfl
theorem exec_wrwim rs1 op2 : exec (.wrwim rs1 op2) s = execWrwim rs1 op2 s := rfl
theorem exec_wrtbr rs1 op2 : exec (.wrtbr rs1 op2) s = execWrtbr rs1 op2 s := rfl
theorem exec_fpop1 rd rs1 opf rs2 : exec (.fpop1 rd rs1 opf rs2) s = execFpop1 rd rs1 opf rs2 s := rfl
theorem exec_fmovs rd rs1 rs2 : exec (.fmovs rd rs1 rs2) s = execFmovs rd rs1 rs2 s := rfl
theorem exec_fnegs rd rs1 rs2 : exec (.fnegs rd rs1 rs2) s = execFnegs rd rs1 rs2 s := rfl
theorem exec_fabss rd rs1 rs2 : exec (.fabss rd rs1 rs2) s = execFabss rd rs1 rs2 s := rfl
theorem exec_fsqrts rd rs1 rs2 : exec (.fsqrts rd rs1 rs2) s = execFsqrts rd rs1 rs2 s := rfl
theorem exec_fsqrtd rd rs1 rs2 : exec (.fsqrtd rd rs1 rs2) s = execFsqrtd rd rs1 rs2 s := rfl
theorem exec_fsqrtx rd rs1 rs2 : exec (.fsqrtx rd rs1 rs2) s = execFsqrtx rd rs1 rs2 s := rfl
theorem exec_fadds rd rs1 rs2 : exec (.fadds rd rs1 rs2) s = execFadds rd rs1 rs2 s := rfl
theorem exec_faddd rd rs1 rs2 : exec (.faddd rd rs1 rs2) s = execFaddd rd rs1 rs2 s := rfl
theorem exec_faddx rd rs1 rs2 : exec (.faddx rd rs1 rs2) s = execFaddx rd rs1 rs2 s := rfl
theorem exec_fsubs rd rs1 rs2 : exec (.fsubs rd rs1 rs2) s = execFsubs rd rs1 rs2 s := rfl
theorem exec_fsubd rd rs1 rs2 : exec (.fsubd rd rs1 rs2) s = execFsubd rd rs1 rs2 s := rfl
theorem exec_fsubx rd rs1 rs2 : exec (.fsubx rd rs1 rs2) s = execFsubx rd rs1 rs2 s := rfl
theorem exec_fmuls rd rs1 rs2 : exec (.fmuls rd rs1 rs2) s = execFmuls rd rs1 rs2 s := rfl
theorem exec_fmuld rd rs1 rs2 : exec (.fmuld rd rs1 rs2) s = execFmuld rd rs1 rs2 s := rfl
theorem exec_fmulx rd rs1 rs2 : exec (.fmulx rd rs1 rs2) s = execFmulx rd rs1 rs2 s := rfl
theorem exec_fdivs rd rs1 rs2 : exec (.fdivs rd rs1 rs2) s = execFdivs rd rs1 rs2 s := rfl
theorem exec_fdivd rd rs1 rs2 : exec (.fdivd rd rs1 rs2) s = execFdivd rd rs1 rs2 s := rfl
theorem exec_fdivx rd rs1 rs2 : exec (.fdivx rd rs1 rs2) s = execFdivx rd rs1 rs2 s := rfl
theorem exec_fitos rd rs1 rs2 : exec (.fitos rd rs1 rs2) s = execFitos rd rs1 rs2 s := rfl
theorem exec_fdtos rd rs1 rs2 : exec (.fdtos rd rs1 rs2) s = execFdtos rd rs1 rs2 s := rfl
theorem exec_fxtos rd rs1 rs2 : exec (.fxtos rd rs1 rs2) s = execFxtos rd rs1 rs2 s := rfl
theorem exec_fitod rd rs1 rs2 : exec (.fitod rd rs1 rs2) s = execFitod rd rs1 rs2 s := rfl
theorem exec_fstod rd rs1 rs2 : exec (.fstod rd rs1 rs2) s = execFstod rd rs1 rs2 s := rfl
theorem exec_fxtod rd rs1 rs2 : exec (.fxtod rd rs1 rs2) s = execFxtod rd rs1 rs2 s := rfl
theorem exec_fitox rd rs1 rs2 : exec (.fitox rd rs1 rs2) s = execFitox rd rs1 rs2 s := rfl
theorem exec_fstox rd rs1 rs2 : exec (.fstox rd rs1 rs2) s = execFstox rd rs1 rs2 s := rfl
theorem exec_fdtox rd rs1 rs2 : exec (.fdtox rd rs1 rs2) s = execFdtox rd rs1 rs2 s := rfl
theorem exec_fstoi rd rs1 rs2 : exec (.fstoi rd rs1 rs2) s = execFstoi rd rs1 rs2 s := rfl
theorem exec_fdtoi rd rs1 rs2 : exec (.fdtoi rd rs1 rs2) s = execFdtoi rd rs1 rs2 s := rfl
theorem exec_fxtoi rd rs1 rs2 : exec (.fxtoi rd rs1 rs2) s = execFxtoi rd rs1 rs2 s := rfl
theorem exec_fpop2 rd rs1 opf rs2 : exec (.fpop2 rd rs1 opf rs2) s = execFpop2 rd rs1 opf rs2 s := rfl
theorem exec_fcmps rd rs1 rs2 : exec (.fcmps rd rs1 rs2) s = execFcmps rd rs1 rs2 s := rfl
theorem exec_fcmpd rd rs1 rs2 : exec (.fcmpd rd rs1 rs2) s = execFcmpd rd rs1 rs2 s := rfl
theorem exec_fcmpx rd rs1 rs2 : exec (.fcmpx rd rs1 rs2) s = execFcmpx rd rs1 rs2 s := rfl
theorem exec_fcmpes rd rs1 rs2 : exec (.fcmpes rd rs1 rs2) s = execFcmpes rd rs1 rs2 s := rfl
theorem exec_fcmped rd rs1 rs2 : exec (.fcmped rd rs1 rs2) s = execFcmped rd rs1 rs2 s := rfl
theorem exec_fcmpex rd rs1 rs2 : exec (.fcmpex rd rs1 rs2) s = execFcmpex rd rs1 rs2 s := rfl
theorem exec_cpop1 rd rs1 opc rs2 : exec (.cpop1 rd rs1 opc rs2) s = execCpop1 rd rs1 opc rs2 s := rfl
theorem exec_cpop2 rd rs1 opc rs2 : exec (.cpop2 rd rs1 opc rs2) s = execCpop2 rd rs1 opc rs2 s := rfl
theorem exec_jmpl rd rs1 op2 : exec (.jmpl rd rs1 op2) s = execJmpl rd rs1 op2 s := rfl
theorem exec_rett rs1 op2 : exec (.rett rs1 op2) s = execRett rs1 op2 s := rfl
theorem exec_tn rs1 op2 : exec (.tn rs1 op2) s = execTn rs1 op2 s := rfl
theorem exec_te rs1 op2 : exec (.te rs1 op2) s = execTe rs1 op2 s := rfl
theorem exec_tle rs1 op2 : exec (.tle rs1 op2) s = execTle rs1 op2 s := rfl
theorem exec_tl rs1 op2 : exec (.tl rs1 op2) s = execTl rs1 op2 s := rfl
theorem exec_tleu rs1 op2 : exec (.tleu rs1 op2) s = execTleu rs1 op2 s := rfl
theorem exec_tcs rs1 op2 : exec (.tcs rs1 op2) s = execTcs rs1 op2 s := rfl
theorem exec_tneg rs1 op2 : exec (.tneg rs1 op2) s = execTneg rs1 op2 s := rfl
theorem exec_tvs rs1 op2 : exec (.tvs rs1 op2) s = execTvs rs1 op2 s := rfl
theorem exec_ta rs1 op2 : exec (.ta rs1 op2) s = execTa rs1 op2 s := rfl
theorem exec_tne rs1 op2 : exec (.tne rs1 op2) s = execTne rs1 op2 s := rfl
theorem exec_tg rs1 op2 : exec (.tg rs1 op2) s = execTg rs1 op2 s := rfl
theorem exec_tge rs1 op2 : exec (.tge rs1 op2) s = execTge rs1 op2 s := rfl
theorem exec_tgu rs1 op2 : exec (.tgu rs1 op2) s = execTgu rs1 op2 s := rfl
theorem exec_tcc rs1 op2 : exec (.tcc rs1 op2) s = execTcc rs1 op2 s := rfl
theorem exec_tpos rs1 op2 : exec (.tpos rs1 op2) s = execTpos rs1 op2 s := rfl
theorem exec_tvc rs1 op2 : exec (.tvc rs1 op2) s = execTvc rs1 op2 s := rfl
theorem exec_iflush rs1 op2 : exec (.iflush rs1 op2) s = execIflush rs1 op2 s := rfl
theorem exec_save rd rs1 op2 : exec (.save rd rs1 op2) s = execSave rd rs1 op2 s := rfl
theorem exec_restore rd rs1 op2 : exec (.restore rd rs1 op2) s = execRestore rd rs1 op2 s := rfl
theorem exec_ld rd rs1 op2 : exec (.ld rd rs1 op2) s = execLd rd rs1 op2 s := rfl
theorem exec_ldub rd rs1 op2 : exec (.ldub rd rs1 op2) s = execLdub rd rs1 op2 s := rfl
theorem exec_lduh rd rs1 op2 : exec (.lduh rd rs1 op2) s = execLduh rd rs1 op2 s := rfl
theorem exec_ldd rd rs1 op2 : exec (.ldd rd rs1 op2) s = execLdd rd rs1 op2 s := rfl
theorem exec_st rd rs1 op2 : exec (.st rd rs1 op2) s = execSt rd rs1 op2 s := rfl
theorem exec_stb rd rs1 op2 : exec (.stb rd rs1 op2) s = execStb rd rs1 op2 s := rfl
theorem exec_sth rd rs1 op2 : exec (.sth rd rs1 op2) s = execSth rd rs1 op2 s := rfl
theorem exec_std rd rs1 op2 : exec (.std rd rs1 op2) s = execStd rd rs1 op2 s := rfl
theorem exec_ldsb rd rs1 op2 : exec (.ldsb rd rs1 op2) s = execLdsb rd rs1 op2 s := rfl
theorem exec_ldsh rd rs1 op2 : exec (.ldsh rd rs1 op2) s = execLdsh rd rs1 op2 s := rfl
theorem exec_ldstub rd rs1 op2 : exec (.ldstub rd rs1 op2) s = execLdstub rd rs1 op2 s := rfl
theorem exec_swap rd rs1 op2 : exec (.swap rd rs1 op2) s = execSwap rd rs1 op2 s := rfl
theorem exec_lda rd rs1 asi rs2 : exec (.lda rd rs1 asi rs2) s = execLda rd rs1 asi rs2 s := rfl
theorem exec_lduba rd rs1 asi rs2 : exec (.lduba rd rs1 asi rs2) s = execLduba rd rs1 asi rs2 s := rfl
theorem exec_lduha rd rs1 asi rs2 : exec (.lduha rd rs1 asi rs2) s = execLduha rd rs1 asi rs2 s := rfl
theorem exec_ldda rd rs1 asi rs2 : exec (.ldda rd rs1 asi rs2) s = execLdda rd rs1 asi rs2 s := rfl
theorem exec_sta rd rs1 asi rs2 : exec (.sta rd rs1 asi rs2) s = execSta rd rs1 asi rs2 s := rfl
theorem exec_stba rd rs1 asi rs2 : exec (.stba rd rs1 asi rs2) s = execStba rd rs1 asi rs2 s := rfl
theorem exec_stha rd rs1 asi rs2 : exec (.stha rd rs1 asi rs2) s = execStha rd rs1 asi rs2 s := rfl
theorem exec_stda rd rs1 asi rs2 : exec (.stda rd rs1 asi rs2) s = execStda rd rs1 asi rs2 s := rfl
theorem exec_ldsba rd rs1 asi rs2 : exec (.ldsba rd rs1 asi rs2) s = execLdsba rd rs1 asi rs2 s := rfl
theorem exec_ldsha rd rs1 asi rs2 : exec (.ldsha rd rs1 asi rs2) s = execLdsha rd rs1 asi rs2 s := rfl
theorem exec_ldstuba rd rs1 asi rs2 : exec (.ldstuba rd rs1 asi rs2) s = execLdstuba rd rs1 asi rs2 s := rfl
theorem exec_swapa rd rs1 asi rs2 : exec (.swapa rd rs1 asi rs2) s = execSwapa rd rs1 asi rs2 s := rfl
theorem exec_ldf rd rs1 op2 : exec (.ldf rd rs1 op2) s = execLdf rd rs1 op2 s := rfl
theorem exec_ldfsr rd rs1 op2 : exec (.ldfsr rd rs1 op2) s = execLdfsr rd rs1 op2 s := rfl
theorem exec_lddf rd rs1 op2 : exec (.lddf rd rs1 op2) s = execLddf rd rs1 op2 s := rfl
theorem exec_stf rd rs1 op2 : exec (.stf rd rs1 op2) s = execStf rd rs1 op2 s := rfl
theorem exec_stfsr rd rs1 op2 : exec (.stfsr rd rs1 op2) s = execStfsr rd rs1 op2 s := rfl
theorem exec_stdfq rd rs1 op2 : exec (.stdfq rd rs1 op2) s = execStdfq rd rs1 op2 s := rfl
theorem exec_stdf rd rs1 op2 : exec (.stdf rd rs1 op2) s = execStdf rd rs1 op2 s := rfl
theorem exec_ldc rd rs1 op2 : exec (.ldc rd rs1 op2) s = execLdc rd rs1 op2 s := rfl
theorem exec_ldcsr rd rs1 op2 : exec (.ldcsr rd rs1 op2) s = execLdcsr rd rs1 op2 s := rfl
theorem exec_lddc rd rs1 op2 : exec (.lddc rd rs1 op2) s = execLddc rd rs1 op2 s := rfl
theorem exec_stc rd rs1 op2 : exec (.stc rd rs1 op2) s = execStc rd rs1 op2 s := rfl
theorem exec_stcsr rd rs1 op2 : exec (.stcsr rd rs1 op2) s = execStcsr rd rs1 op2 s := rfl
theorem exec_stdcq rd rs1 op2 : exec (.stdcq rd rs1 op2) s = execStdcq rd rs1 op2 s := rfl
theorem exec_stdc rd rs1 op2 : exec (.stdc rd rs1 op2) s = execStdc rd rs1 op2 s := rfl

end Sys2Proof.Machine
end

