-- ==== Sys2Proof/Laws/Effects.lean ====
section
/-! SUPPORT. What the ends of instructions do, in the words of Safety: each lemma turns the fields of the state before the end
into the whole effect. -/

namespace Sys2Proof.Machine

/-! ### Memory read from the cells and the platform alone -/

theorem readByte_congr {s t : State} (hm : t.mem = s.mem) (hp : t.platform = s.platform) (asi : Asi) (a : Word) :
    t.readByte asi a = s.readByte asi a := by simp only [State.readByte, State.byteKey, hm, hp]

theorem sameMemory_of_mem {s t : State} (hm : t.mem = s.mem) (hp : t.platform = s.platform) : s.SameMemory t :=
  fun asi a => readByte_congr hm hp asi a

theorem sameMemoryBut_of_mem {s t : State} {asi : Asi} {ea : Word} {k : Nat} (hm : t.mem = s.mem)
    (hp : t.platform = s.platform) : s.SameMemoryBut t asi ea k := fun asi' a _ => readByte_congr hm hp asi' a

/-- The cells and the platform alone decide what memory reads. -/
theorem State.SameMemoryBut.of_mem {s t u : State} {asi : Asi} {ea : Word} {k : Nat} (h : s.SameMemoryBut t asi ea k)
    (he : u.mem = t.mem) (hp : u.platform = t.platform) : s.SameMemoryBut u asi ea k := fun asi' a ha =>
  (readByte_congr he hp asi' a).trans (h asi' a ha)

/-- Nothing but registers, flags, Y and the bus differs, and the instruction completes. -/
theorem computes_of_fields {s u : State} {rd : RegNum} {v : Word} {psr : Psr} {y : Word} {requests : List BusRequest}
    (hg : u.globals = (s.writeRegIn psr.cwp rd v).globals) (hw : u.windows = (s.writeRegIn psr.cwp rd v).windows)
    (hp : u.regParity = (s.writeRegIn psr.cwp rd v).regParity) (hpsr : u.psr = psr) (hy : u.y = y)
    (hmem : u.mem = s.mem) (hcontrol : s.SameControl u) (hunits : s.SameUnits u) (hbus : u.bus = s.bus ++ requests)
    (hsignals : u.signals = s.signals)
    (hends : u.npc = s.npc ∧ u.annul = s.annul ∧ u.checksum = s.checksum ∧ u.ir = s.ir) :
    s.Computes u.retire.advance rd v psr y requests where
  result := by
    have h := readRegIn_congr hg hw psr.cwp rd
    rw [readRegIn_writeRegIn] at h
    show u.readRegIn u.psr.cwp rd = _
    rw [hpsr, h]
    by_cases e : rd = 0#5
    · subst e; simp [State.readRegIn]
    · simp [e]
  regs := (sameRegsBut_writeRegIn s psr.cwp rd v).of_eq hg hw hp
  psr := hpsr
  y := hy
  memory := sameMemory_of_mem hmem hcontrol.platform
  control := ⟨hcontrol.params, hcontrol.mode, hcontrol.wim, hcontrol.tba, hcontrol.tt, hcontrol.pfcSkip,
    hcontrol.controlParity, hcontrol.hwerror, hcontrol.platform, hcontrol.inputs⟩
  units := ⟨hunits.fpu, hunits.cp⟩
  bus := ⟨hbus, hsignals⟩
  ends :=
    ⟨hends.1, congrArg (· + 4#32) hends.1, hends.2.1, by
      show (if u.params.flowEnabled then u.checksum ^^^ u.ir else u.checksum) = _
      rw [hcontrol.params, hends.2.2.1, hends.2.2.2], rfl⟩

/-- The common case: one register written. -/
theorem computes_writeReg (s : State) (rd : RegNum) (v : Word) :
    s.Computes (s.writeReg rd v).retire.advance rd v s.psr s.y [] :=
  computes_of_fields rfl rfl rfl rfl rfl rfl ⟨rfl, rfl, rfl, rfl, rfl, rfl, rfl, rfl, rfl, rfl⟩ ⟨rfl, rfl⟩
    (List.append_nil _).symm rfl ⟨rfl, rfl, rfl, rfl⟩

/-- A register and the flags written. -/
theorem computes_setIcc (s : State) (rd : RegNum) (v : Word) (f : Icc) :
    s.Computes ((s.writeReg rd v).setIcc f).retire.advance rd v { s.psr with icc := f } s.y [] :=
  computes_of_fields rfl rfl rfl rfl rfl rfl ⟨rfl, rfl, rfl, rfl, rfl, rfl, rfl, rfl, rfl, rfl⟩ ⟨rfl, rfl⟩
    (List.append_nil _).symm rfl ⟨rfl, rfl, rfl, rfl⟩

/-- Nothing written at all. -/
theorem computes_nothing (s : State) : s.Computes s.retire.advance 0#5 0#32 s.psr s.y [] :=
  computes_of_fields rfl rfl rfl rfl rfl rfl ⟨rfl, rfl, rfl, rfl, rfl, rfl, rfl, rfl, rfl, rfl⟩ ⟨rfl, rfl⟩
    (List.append_nil _).symm rfl ⟨rfl, rfl, rfl, rfl⟩

/-- A transfer ends as EndsInTransfer says. -/
theorem endsInTransfer_transfer (s : State) (next : Word) : s.EndsInTransfer (s.transfer next).retire next where
  pc := fun h => by simp [h]
  npc := fun h => by simp [h]
  pcAligned := fun h => by
    show (if s.afterCondBranch = true then freeAligned s.freeIdx else s.npc) &&& 3#32 = 0#32
    rw [if_pos h]
    exact aligned_freeAligned _
  npcAligned := fun h => by
    show (if s.afterCondBranch = true then freeAligned (s.freeIdx + 1) else next) &&& 3#32 = 0#32
    rw [if_pos h]
    exact aligned_freeAligned _
  checksum := rfl

/-- The model's target is the base plus four times the displacement. -/
theorem branchTarget_eq (s : State) (d : BitVec 22) : s.branchTarget d = s.branchBase + BitVec.ofInt 32 (4 * d.toInt) := by
  unfold State.branchTarget
  congr 1
  apply BitVec.eq_of_toInt_eq
  rw [BitVec.toInt_signExtend_of_le (by decide), BitVec.toInt_ofInt]
  have hl := d.isLt
  have e : (d ++ 0#2).toNat = d.toNat * 4 := by
    rw [BitVec.toNat_append]; simp [Nat.shiftLeft_eq]
  rw [BitVec.toInt_eq_toNat_cond, e, BitVec.toInt_eq_toNat_cond]
  simp only [Int.bmod]
  split <;> split <;> omega

theorem callTarget_eq (s : State) (d : BitVec 30) : s.callTarget d = s.branchBase + BitVec.ofNat 32 (4 * d.toNat) := by
  unfold State.callTarget
  congr 1
  apply BitVec.eq_of_toNat_eq
  rw [BitVec.toNat_append, BitVec.toNat_ofNat]
  have := d.isLt
  simp only [BitVec.toNat_ofNat, Nat.zero_mod, Nat.or_zero, Nat.shiftLeft_eq]
  omega

/-- A branch whose test is decided. -/
theorem branches_branch (s : State) (cond : BitVec 4) (taken a : Bool) (d : BitVec 22) :
    s.Branches (s.branch cond taken a d) taken (condAlways cond) a (s.branchBase + BitVec.ofInt 32 (4 * d.toInt)) where
  regs := sameRegsBut_of_eq rfl rfl rfl
  psr := rfl
  y := rfl
  memory := fun _ _ => rfl
  control := ⟨rfl, rfl, rfl, rfl, rfl, rfl, rfl, rfl, rfl, rfl⟩
  units := ⟨rfl, rfl⟩
  bus := ⟨(List.append_nil _).symm, rfl⟩
  ends := by
    rw [← branchTarget_eq]
    have h := endsInTransfer_transfer s (if taken then s.branchTarget d else s.npc + 4#32)
    exact ⟨h.pc, h.npc, h.pcAligned, h.npcAligned, h.checksum⟩
  annul := rfl
  afterCondBranch := rfl

/-- A jump that is always taken, with a register written. -/
theorem jumps_writeReg (s : State) (rd : RegNum) (v target : Word) :
    s.Jumps (((s.writeReg rd v).transfer target).retire) rd v target where
  result := readReg_writeReg_self s rd v
  regs := (sameRegsBut_writeRegIn s s.psr.cwp rd v).of_eq rfl rfl rfl
  psr := rfl
  y := rfl
  memory := fun _ _ => rfl
  control := ⟨rfl, rfl, rfl, rfl, rfl, rfl, rfl, rfl, rfl, rfl⟩
  units := ⟨rfl, rfl⟩
  bus := ⟨(List.append_nil _).symm, rfl⟩
  ends :=
    have h := endsInTransfer_transfer (s.writeReg rd v) target
    ⟨h.pc, h.npc, h.pcAligned, h.npcAligned, h.checksum⟩
  annul := rfl
  afterCondBranch := rfl

/-! ### What requests, stores and register writes leave alone -/

/-- All but registers, memory, the bus log and the model's store history stays. -/
structure State.Keeps (s u : State) : Prop where
  psr : u.psr = s.psr
  y : u.y = s.y
  control : s.SameControl u
  units : s.SameUnits u
  signals : u.signals = s.signals
  npc : u.npc = s.npc
  annul : u.annul = s.annul
  checksum : u.checksum = s.checksum
  ir : u.ir = s.ir

theorem State.SameControl.trans {s t u : State} (h : s.SameControl t) (h' : t.SameControl u) : s.SameControl u :=
  ⟨h'.params.trans h.params, h'.mode.trans h.mode, h'.wim.trans h.wim, h'.tba.trans h.tba, h'.tt.trans h.tt,
    h'.pfcSkip.trans h.pfcSkip, h'.controlParity.trans h.controlParity, h'.hwerror.trans h.hwerror,
    h'.platform.trans h.platform, h'.inputs.trans h.inputs⟩

theorem State.Keeps.trans {s t u : State} (h : s.Keeps t) (h' : t.Keeps u) : s.Keeps u :=
  ⟨h'.psr.trans h.psr, h'.y.trans h.y, h.control.trans h'.control,
    ⟨h'.units.fpu.trans h.units.fpu, h'.units.cp.trans h.units.cp⟩, h'.signals.trans h.signals, h'.npc.trans h.npc,
    h'.annul.trans h.annul, h'.checksum.trans h.checksum, h'.ir.trans h.ir⟩

theorem keeps_request (s : State) (r : BusRequest) : s.Keeps (s.request r) :=
  ⟨rfl, rfl, ⟨rfl, rfl, rfl, rfl, rfl, rfl, rfl, rfl, rfl, rfl⟩, ⟨rfl, rfl⟩, rfl, rfl, rfl, rfl, rfl⟩

theorem keeps_storeBytes (s : State) (asi : Asi) (a : Word) (bs : List Byte) : s.Keeps (s.storeBytes asi a bs) :=
  ⟨rfl, rfl, ⟨rfl, rfl, rfl, rfl, rfl, rfl, rfl, rfl, rfl, rfl⟩, ⟨rfl, rfl⟩, rfl, rfl, rfl, rfl, rfl⟩

theorem keeps_writeReg (s : State) (n : RegNum) (v : Word) : s.Keeps (s.writeReg n v) :=
  ⟨rfl, rfl, ⟨rfl, rfl, rfl, rfl, rfl, rfl, rfl, rfl, rfl, rfl⟩, ⟨rfl, rfl⟩, rfl, rfl, rfl, rfl, rfl⟩

theorem keeps_useFree (s : State) (k : Nat) : s.Keeps (s.useFree k) :=
  ⟨rfl, rfl, ⟨rfl, rfl, rfl, rfl, rfl, rfl, rfl, rfl, rfl, rfl⟩, ⟨rfl, rfl⟩, rfl, rfl, rfl, rfl, rfl⟩

/-- A trap taken halfway through an instruction enters as from its start. -/
theorem State.Keeps.entered {s u : State} (h : s.Keeps u) (k : Trap) : s.EnteredTrap (u.takeTrap k) :=
  have e := (traps_takeTrap k u).entered
  ⟨e.et, e.supervisor, e.ps.trans (by rw [h.psr]), e.cwp.trans (by rw [h.psr]), e.pc, e.npc, e.annul,
    e.tba.trans h.control.tba, e.wim.trans h.control.wim, e.mode.trans (by rw [h.psr, h.control.mode])⟩

/-- It writes r[17] and r[18] of its window beside what the instruction had written. -/
theorem State.Keeps.trapRegs {s u : State} {l : List Nat} (h : s.Keeps u) (hr : s.SameRegsBut u l) (k : Trap) :
    s.SameRegsBut (u.takeTrap k) (l ++ [regIndex (s.psr.cwp - 1#3) 17#5, regIndex (s.psr.cwp - 1#3) 18#5]) := by
  have t := hr.trans (traps_takeTrap k u).regs
  rw [h.psr] at t
  exact t

/-- A refused request traps, the request made (rule R100). -/
theorem traps_refused (s : State) (r : BusRequest) :
    ∃ t, (s.request r).raise .dataAccessException = .next t ∧ State.Traps .dataAccessException s t ∧ s.SameUnits t ∧
      t.bus = s.bus ++ [r] := by
  have t := traps_takeTrap .dataAccessException (s.request r)
  have hr := (keeps_request s r).trapRegs (l := []) (sameRegsBut_of_eq rfl rfl rfl) .dataAccessException
  refine ⟨_, rfl, ⟨t.psr, t.savedPc, t.savedNpc, hr, t.tt, t.pc, t.npc, t.annul, t.mode, t.pfcSkip, t.checksum, t.wim, t.tba, t.y,
    fun a b => (t.memory a b).trans (readByte_congr (by simp) (by simp) a b), t.params, t.platform, t.controlParity, t.hwerror,
    t.inputs⟩, ?_, ?_⟩
  · constructor <;> simp
  · simp

/-- How registers and memory read once an instruction has completed. -/
theorem readReg_complete (s : State) (n : RegNum) : s.retire.advance.readReg n = s.readReg n := rfl

theorem readByte_complete (s : State) (asi : Asi) (a : Word) : s.retire.advance.readByte asi a = s.readByte asi a := rfl

theorem readWord_complete (s : State) (asi : Asi) (a : Word) : s.retire.advance.readWord asi a = s.readWord asi a := rfl

/-- Data moved, and the instruction completes. -/
theorem moves_of_keeps {s u : State} {changed : List Nat} {asi : Asi} {ea : Word} {bytes : Nat} {requests : List BusRequest}
    (hk : s.Keeps u) (hregs : s.SameRegsBut u changed) (hmem : s.SameMemoryBut u asi ea bytes)
    (hbus : u.bus = s.bus ++ requests) : s.Moves u.retire.advance changed asi ea bytes requests where
  regs := hregs.of_eq rfl rfl rfl
  psr := hk.psr
  y := hk.y
  memory := hmem.of_mem rfl rfl
  control := ⟨hk.control.params, hk.control.mode, hk.control.wim, hk.control.tba, hk.control.tt, hk.control.pfcSkip,
    hk.control.controlParity, hk.control.hwerror, hk.control.platform, hk.control.inputs⟩
  units := ⟨hk.units.fpu, hk.units.cp⟩
  bus := ⟨hbus, hk.signals⟩
  ends :=
    ⟨hk.npc, congrArg (· + 4#32) hk.npc, hk.annul, by
      show (if u.params.flowEnabled then u.checksum ^^^ u.ir else u.checksum) = _
      rw [hk.control.params, hk.checksum, hk.ir], rfl⟩

/-! ### Loads and stores that are accepted -/

/-- The requests of loads and stores are those of rules R90 and R91. -/
theorem dataRequest_none (s : State) (asi : Asi) (ea : Word) (z : Size) (l k : Bool) :
    s.dataRequest asi ea z l k none = s.readRequest asi ea z.code l k := rfl

theorem dataRequest_some (s : State) (asi : Asi) (ea : Word) (z : Size) (l k : Bool) (v : Word) :
    s.dataRequest asi ea z l k (some v) = s.writeRequest asi ea z.code l k v := rfl

/-! Nothing of a request, and nothing of the answer, depends on what an instruction changes. -/

theorem request_readRequest (s : State) (r : BusRequest) : (s.request r).readRequest = s.readRequest := rfl

theorem request_writeRequest (s : State) (r : BusRequest) : (s.request r).writeRequest = s.writeRequest := rfl

theorem storeBytes_writeRequest (s : State) (asi : Asi) (a : Word) (bs : List Byte) :
    (s.storeBytes asi a bs).writeRequest = s.writeRequest := rfl

theorem request_refuses (s : State) (r : BusRequest) : (s.request r).refuses = s.refuses := rfl

theorem storeBytes_refuses (s : State) (asi : Asi) (a : Word) (bs : List Byte) :
    (s.storeBytes asi a bs).refuses = s.refuses := rfl

/-- The four bytes of a word make that word on the bus. -/
theorem busData_bytesOfData (v : Word) : busData (bytesOfData v) = v := word_of_bytes v

/-- A load: one request, one register. -/
theorem computes_load (s : State) (rd : RegNum) (v : Word) (r : BusRequest) :
    s.Computes ((s.request r).writeReg rd v).retire.advance rd v s.psr s.y [r] :=
  computes_of_fields rfl rfl rfl rfl rfl rfl ⟨rfl, rfl, rfl, rfl, rfl, rfl, rfl, rfl, rfl, rfl⟩ ⟨rfl, rfl⟩ rfl rfl
    ⟨rfl, rfl, rfl, rfl⟩

/-- A store: one request, some bytes. -/
theorem moves_store {s : State} (hm : Memory.wf s.mem = true) (asi : Asi) (ea : Word) (bs : List Byte) (r : BusRequest) :
    s.Moves ((s.request r).storeBytes asi ea bs).retire.advance [] asi ea bs.length [r] :=
  moves_of_keeps ((keeps_request s r).trans (keeps_storeBytes _ _ _ _)) (sameRegsBut_of_eq rfl rfl rfl)
    (sameMemoryBut_storeBytes (s := s.request r) hm asi ea bs) rfl

/-- Two words stored one after the other: the eight bytes, and how they read back. -/
theorem two_words {s : State} (hm : Memory.wf s.mem = true) (asi : Asi) (ea hi lo : Word) (r q : BusRequest) :
    s.SameMemoryBut ((((s.request r).storeBytes asi ea (bytesOfData hi)).request q).storeBytes asi (ea + 4#32)
        (bytesOfData lo)) asi ea 8 ∧
      ((((s.request r).storeBytes asi ea (bytesOfData hi)).request q).storeBytes asi (ea + 4#32)
        (bytesOfData lo)).readWord asi ea = hi ∧
      ((((s.request r).storeBytes asi ea (bytesOfData hi)).request q).storeBytes asi (ea + 4#32)
        (bytesOfData lo)).readWord asi (ea + 4#32) = lo := by
  have h1 : Memory.wf ((s.request r).storeBytes asi ea (bytesOfData hi)).mem = true := wf_storeBytes (s := s.request r) hm _ _ _
  have f1 := sameMemoryBut_storeBytes (s := s.request r) hm asi ea (bytesOfData hi)
  have f2 := sameMemoryBut_storeBytes (s := ((s.request r).storeBytes asi ea (bytesOfData hi)).request q) h1 asi (ea + 4#32)
    (bytesOfData lo)
  have shift : ∀ j : Nat, ea + 4#32 + BitVec.ofNat 32 j = ea + BitVec.ofNat 32 (4 + j) := fun j => by
    rw [BitVec.ofNat_add, BitVec.add_assoc]
  refine ⟨fun asi' a h => ?_, ?_, readWord_storeBytes (s := ((s.request r).storeBytes asi ea (bytesOfData hi)).request q) h1 _ _ _⟩
  · rw [f2 asi' a fun j hj => by rw [shift]; exact h (4 + j) (by simp only [bytesOfData, List.length_cons, List.length_nil] at hj; omega)]
    exact f1 asi' a fun j hj => h j (by simp only [bytesOfData, List.length_cons, List.length_nil] at hj; omega)
  · rw [readWord_congr (s := ((s.request r).storeBytes asi ea (bytesOfData hi)).request q)]
    · exact readWord_storeBytes (s := s.request r) hm asi ea hi
    · intro j hj
      refine f2 asi _ fun i hi' e => ?_
      rw [byteKey_eq_iff, shift] at e
      have := add_ofNat_inj (by omega) (by simp only [bytesOfData, List.length_cons, List.length_nil] at hi'; omega) e.2
      omega

/-- The two reads of a double load (rules R91, R186). -/
theorem twoReads_eq {s : State} {asi : Asi} {ea : Word} {f g : State → State} {go : State → Result}
    (h1 : s.refuses (s.readRequest asi ea 0b11#2 false true) = false) :
    (s.readAccess asi ea .dbl false true f fun t => t.readAccess asi (ea + 4#32) .dbl false false g go) =
      if s.refuses (s.readRequest asi (ea + 4#32) 0b11#2 false false) = true then
        ((g (s.request (s.readRequest asi ea 0b11#2 false true))).request
          (s.readRequest asi (ea + 4#32) 0b11#2 false false)).raise .dataAccessException
      else
        go ((s.request (s.readRequest asi ea 0b11#2 false true)).request
          (s.readRequest asi (ea + 4#32) 0b11#2 false false)) := by
  rw [readAccess_of_accepted (by rw [dataRequest_none]; exact h1), dataRequest_none]
  rw [State.readAccess, dataRequest_none, request_readRequest, request_refuses]
  rfl

/-- The two writes of a double store (rules R91, R102, R193). -/
theorem storeTwo_eq {s : State} {asi : Asi} {ea hi lo : Word} {go : State → Result}
    (h1 : s.refuses (s.writeRequest asi ea 0b11#2 false true hi) = false) :
    s.storeTwo asi ea hi lo go =
      if s.refuses (s.writeRequest asi (ea + 4#32) 0b11#2 false false lo) = true then
        (((s.request (s.writeRequest asi ea 0b11#2 false true hi)).storeBytes asi ea (bytesOfData hi)).request
          (s.writeRequest asi (ea + 4#32) 0b11#2 false false lo)).raise .dataAccessException
      else
        go ((((s.request (s.writeRequest asi ea 0b11#2 false true hi)).storeBytes asi ea (bytesOfData hi)).request
          (s.writeRequest asi (ea + 4#32) 0b11#2 false false lo)).storeBytes asi (ea + 4#32) (bytesOfData lo)) := by
  rw [State.storeTwo, writeAccess_of_accepted (by rw [busData_bytesOfData, dataRequest_some]; exact h1),
    busData_bytesOfData, dataRequest_some]
  rw [State.writeAccess, busData_bytesOfData, dataRequest_some,
    storeBytes_writeRequest, request_writeRequest, storeBytes_refuses, request_refuses]
  rfl

/-- What two accepted writes leave alone, and the requests they make. -/
theorem two_keeps (s : State) (asi : Asi) (ea ea' : Word) (bs cs : List Byte) (r q : BusRequest) :
    s.Keeps ((((s.request r).storeBytes asi ea bs).request q).storeBytes asi ea' cs) ∧
      s.SameRegsBut ((((s.request r).storeBytes asi ea bs).request q).storeBytes asi ea' cs) [] ∧
      ((((s.request r).storeBytes asi ea bs).request q).storeBytes asi ea' cs).bus = s.bus ++ [r, q] :=
  ⟨(((keeps_request s r).trans (keeps_storeBytes _ _ _ _)).trans (keeps_request _ q)).trans (keeps_storeBytes _ _ _ _),
    sameRegsBut_of_eq rfl rfl rfl, List.append_assoc s.bus [r] [q]⟩

/-- A double store that is accepted and completes. -/
theorem moves_two {s : State} (hm : Memory.wf s.mem = true) (asi : Asi) (ea hi lo : Word) (r q : BusRequest) :
    s.Moves ((((s.request r).storeBytes asi ea (bytesOfData hi)).request q).storeBytes asi (ea + 4#32)
      (bytesOfData lo)).retire.advance [] asi ea 8 [r, q] :=
  have h := two_keeps s asi ea (ea + 4#32) (bytesOfData hi) (bytesOfData lo) r q
  moves_of_keeps h.1 h.2.1 (two_words hm asi ea hi lo r q).1 h.2.2

/-- The two halves of an atomic that is accepted (rules R112, R210). -/
theorem exchange_eq {s : State} {asi : Asi} {ea : Word} {z : Size} {rd : RegNum} {old : Word} {bs : List Byte}
    (h1 : s.refuses (s.readRequest asi ea z.code true true) = false)
    (h2 : s.refuses (s.writeRequest asi ea z.code true false (busData bs)) = false) :
    s.exchange asi ea z rd old bs =
      .next ((((s.request (s.readRequest asi ea z.code true true)).request
        (s.writeRequest asi ea z.code true false (busData bs))).storeBytes asi ea bs).writeReg rd old).retire.advance := by
  rw [State.exchange, readAccess_of_accepted (by rw [dataRequest_none]; exact h1), dataRequest_none]
  rw [State.writeAccess, dataRequest_some, request_writeRequest, request_refuses]
  simp only [h2, Bool.false_eq_true, if_false]
  rfl

/-- What an accepted atomic does. -/
theorem moves_exchange {s : State} (hm : Memory.wf s.mem = true) (asi : Asi) (ea : Word) (rd : RegNum) (old : Word)
    (bs : List Byte) (r q : BusRequest) :
    s.Moves ((((s.request r).request q).storeBytes asi ea bs).writeReg rd old).retire.advance [regIndex s.psr.cwp rd] asi ea
      bs.length [r, q] :=
  moves_of_keeps
    ((((keeps_request s r).trans (keeps_request _ q)).trans (keeps_storeBytes _ _ _ _)).trans (keeps_writeReg _ _ _))
    ((sameRegsBut_of_eq (s := s) (t := ((s.request r).request q).storeBytes asi ea bs) (l := []) rfl rfl rfl).trans
      (sameRegsBut_writeRegIn _ _ _ _))
    ((sameMemoryBut_storeBytes (s := (s.request r).request q) hm asi ea bs).of_mem rfl rfl) (List.append_assoc s.bus [r] [q])

/-- What an accepted double load does. -/
theorem moves_pair (s : State) (asi : Asi) (ea : Word) (n : RegNum) (hi lo : Word) (r q : BusRequest) :
    s.Moves ((((s.request r).request q).writeReg (evenReg n) hi).writeReg (oddReg n) lo).retire.advance
      [regIndex s.psr.cwp (evenReg n), regIndex s.psr.cwp (oddReg n)] asi ea 0 [r, q] :=
  moves_of_keeps
    ((((keeps_request s r).trans (keeps_request _ q)).trans (keeps_writeReg _ _ _)).trans (keeps_writeReg _ _ _))
    ((sameRegsBut_of_eq (s := s) (t := (s.request r).request q) (l := []) rfl rfl rfl).trans
      (pair_writeReg ((s.request r).request q) n hi lo).1)
    (sameMemoryBut_of_mem rfl rfl) (List.append_assoc s.bus [r] [q])

end Sys2Proof.Machine
end

