-- ==== Sys2Proof/Laws/Units.lean ====
section
/-! SUPPORT. What the operations of the FPU and the coprocessor do. -/

namespace Sys2Proof.Machine

/-! ### Condition codes and registers of a unit -/

theorem ccLow_lt (kind : UnitKind) : kind.ccLow < 31 := by
  cases kind
  · exact Config.fccLow.isLt
  · exact Config.cccLow.isLt

/-- The condition codes are kept as they are said to be (rule R360). -/
theorem ccField_keepCc (kind : UnitKind) (a b : Word) : kind.ccField (kind.keepCc a b) = kind.ccField b := by
  have hl := ccLow_lt kind
  unfold UnitKind.ccField UnitKind.keepCc
  generalize kind.ccLow = low at hl
  apply BitVec.eq_of_getLsbD_eq
  intro i hi
  have hm : (3#32 <<< low).getLsbD (low + i) = true := by
    rw [BitVec.getLsbD_shiftLeft, show low + i - low = i by omega]
    rcases (by omega : i = 0 ∨ i = 1) with rfl | rfl
    · simp; omega
    · simp; omega
  rw [BitVec.getLsbD_extractLsb', BitVec.getLsbD_extractLsb', BitVec.getLsbD_or, BitVec.getLsbD_and, BitVec.getLsbD_and,
    BitVec.getLsbD_not, hm]
  simp

/-- Finishing an instruction leaves the queue and the exception state alone. -/
theorem finish_fields (kind : UnitKind) (u : Coproc) (w : Word) (k : Nat) :
    (u.finish kind w k).queue = u.queue ∧ (u.finish kind w k).excPending = u.excPending ∧
      (u.finish kind w k).excMode = u.excMode := by simp only [Coproc.finish, and_self]

/-- Raising its exception leaves the exception mode and the registers that the instruction does not write alone. -/
theorem except_fields {kind : UnitKind} {u : Coproc} {w : Word} (k : Nat) :
    (u.except kind w k).excMode = u.excMode ∧ (u.except kind w k).excPending = true ∧
      (u.except kind w k).regs = (u.finish kind w k).regs := by simp only [Coproc.except, Coproc.finish, and_self]

/-- Finishing an instruction writes its registers alone. -/
theorem readReg_finish {kind : UnitKind} {u : Coproc} {w : Word} {n : RegNum} (h : (kind.writes w).getLsbD n.toNat = false)
    (k : Nat) : (u.finish kind w k).readReg n = u.readReg n := by
  have h' : (kind.writes w)[n.toNat]'n.isLt = false := by rw [← BitVec.getLsbD_eq_getElem]; exact h
  simp [Coproc.readReg, Coproc.finish, h']

/-- Only a compare changes the condition codes (rule R365). -/
theorem ccField_finish {kind : UnitKind} {u : Coproc} {w : Word} (h : kind.setsCc w = false) (k : Nat) :
    kind.ccField (u.finish kind w k).status = kind.ccField u.status := by
  simp [Coproc.finish, h, ccField_keepCc]

/-! ### Working on the queue -/

/-- A unit with nothing queued does nothing. -/
theorem drain_nil (kind : UnitKind) (needs : Word → Bool) (u : Coproc) (k : Nat) :
    Coproc.drain kind needs [] u k = ({ u with queue := [] }, k) := rfl

theorem syncUnit_of_empty {s : State} {kind : UnitKind} {needs : Word → Bool} (h : (s.unit kind).queue = []) :
    s.syncUnit kind needs = s := by
  unfold State.syncUnit
  split
  · rfl
  · rw [h, drain_nil]
    have : ({ s.unit kind with queue := [] } : Coproc) = s.unit kind := by rw [← h]
    rw [this]
    cases kind <;> rfl

theorem unit_afterWork (s : State) (kind : UnitKind) (r : Coproc × Nat) : (s.afterWork kind r).unit kind = r.1 := by
  cases kind <;> rfl

theorem unit_afterWork_other (s : State) {kind other : UnitKind} (h : other ≠ kind) (r : Coproc × Nat) :
    (s.afterWork kind r).unit other = s.unit other := by
  cases kind <;> cases other <;> first | rfl | exact absurd rfl h

/-- A unit that did no work. -/
theorem afterWork_same (s : State) (kind : UnitKind) : s.afterWork kind (s.unit kind, s.freeIdx) = s := by
  cases kind <;> rfl

/-- With an exception pending, or in exception mode, a unit finishes nothing (rule R363). -/
theorem syncUnit_of_exception {s : State} {kind : UnitKind} {needs : Word → Bool}
    (h : (s.unit kind).excPending = true ∨ (s.unit kind).excMode = true) : s.syncUnit kind needs = s := by
  unfold State.syncUnit
  rw [if_pos (by simpa using h)]

/-- Synchronising changes the unit and the free values used, nothing else. -/
theorem syncUnit_eq (s : State) (kind : UnitKind) (needs : Word → Bool) :
    ∃ u k, s.syncUnit kind needs = s.afterWork kind (u, k) := by
  unfold State.syncUnit
  split
  · exact ⟨s.unit kind, s.freeIdx, (afterWork_same s kind).symm⟩
  · exact ⟨_, _, rfl⟩

/-- What a unit is after it worked on the queue q (rules R363, R394). -/
structure Drained (kind : UnitKind) (needs : Word → Bool) (q : List (Word × Word)) (u v : Coproc) : Prop where
  exceptionMode : v.excMode = u.excMode
  queue : v.queue <:+ q
  front : v.excPending = true → v.queue ≠ []
  waited : v.excPending = false → ∀ e ∈ v.queue, needs e.2 = false
  regs : ∀ n, (∀ e ∈ q, (kind.writes e.2).getLsbD n.toNat = false) → v.readReg n = u.readReg n
  cc : v.excPending = false → (∀ e ∈ q, kind.setsCc e.2 = false) → kind.ccField v.status = kind.ccField u.status

/-- Working on the queue: a front part is gone, an exception is pending only with something left, and without one nothing is
left that is waited for; registers and condition codes change only by the queued instructions that write them. -/
theorem drain_spec (kind : UnitKind) (needs : Word → Bool) (q : List (Word × Word)) (u : Coproc) (k : Nat)
    (hp : u.excPending = false) : Drained kind needs q u (Coproc.drain kind needs q u k).1 := by
  induction q generalizing u k with
  | nil => exact ⟨rfl, List.suffix_refl _, fun h => absurd (h.symm.trans hp) (by decide), fun _ _ h => (by cases h),
      fun _ _ => rfl, fun _ _ => rfl⟩
  | cons e rest ih =>
    obtain ⟨a, w⟩ := e
    unfold Coproc.drain
    split
    · next h =>
      refine ⟨rfl, List.suffix_refl _, fun _ => by simp, fun _ e he => ?_, fun _ _ => rfl, fun _ _ => rfl⟩
      simp only [Bool.and_eq_true, Bool.not_eq_true', List.any_eq_false] at h
      rcases List.mem_cons.mp he with rfl | he
      · exact h.1.1.1
      · exact Bool.eq_false_iff.mpr (h.1.1.2 e he)
    · split
      · have e := except_fields (kind := kind) (u := u) (w := w) (k + 2)
        generalize u.except kind w (k + 2) = v at e
        refine ⟨e.1, List.suffix_refl _, fun _ => by simp, fun hf => ?_, fun n hn => ?_, fun hf => ?_⟩
        · exact absurd (e.2.1.symm.trans hf) (by decide)
        · have r := readReg_finish (u := u) (hn (a, w) List.mem_cons_self) (k + 2)
          unfold Coproc.readReg at r ⊢
          simp only [e.2.2]
          exact r
        · exact absurd (e.2.1.symm.trans hf) (by decide)
      · obtain ⟨-, hp', hm'⟩ := finish_fields kind u w (k + 2)
        have d := ih (u.finish kind w (k + 2)) (k + freeStride) (hp'.trans hp)
        exact ⟨d.exceptionMode.trans hm', d.queue.trans (List.suffix_cons _ _), d.front, d.waited,
          fun n hn => (d.regs n fun e he => hn e (List.mem_cons_of_mem _ he)).trans
            (readReg_finish (hn (a, w) List.mem_cons_self) _),
          fun hf hn => (d.cc hf fun e he => hn e (List.mem_cons_of_mem _ he)).trans
            (ccField_finish (hn (a, w) List.mem_cons_self) _)⟩

/-- Synchronising a unit that is ready drains its queue. -/
theorem drained_syncUnit {s : State} {kind : UnitKind} (hp : (s.unit kind).excPending = false)
    (hm : (s.unit kind).excMode = false) (needs : Word → Bool) :
    Drained kind (fun w => kind.setsCc w || needs w) (s.unit kind).queue (s.unit kind) ((s.syncUnit kind needs).unit kind) := by
  unfold State.syncUnit
  rw [if_neg (by simp [hp, hm]), unit_afterWork]
  exact drain_spec _ _ _ _ _ hp

/-- A consistent unit stays consistent when it works on its queue. -/
theorem good_syncUnit {s : State} {kind : UnitKind} {needs : Word → Bool} (h : (s.unit kind).Good) :
    ((s.syncUnit kind needs).unit kind).Good := by
  by_cases hn : (s.unit kind).excPending = true ∨ (s.unit kind).excMode = true
  · rw [syncUnit_of_exception hn]; exact h
  · simp only [not_or, Bool.not_eq_true] at hn
    have hd := drained_syncUnit hn.1 hn.2 needs
    exact ⟨fun hp => ⟨hd.front hp, hd.exceptionMode.trans hn.2⟩, fun hm => by
      rw [hd.exceptionMode, hn.2] at hm; cases hm⟩

/-- The other unit is not touched. -/
theorem syncUnit_other {s : State} {kind other : UnitKind} {needs : Word → Bool} (h : other ≠ kind) :
    (s.syncUnit kind needs).unit other = s.unit other := by
  obtain ⟨u, k, e⟩ := syncUnit_eq s kind needs
  rw [e]
  cases kind <;> cases other <;> first | rfl | exact absurd rfl h

/-! ### The checks -/

/-- The checks of a unit's instruction in the order of rule R396: disabled, misaligned, exception pending. -/
theorem yields_unitChecks {P : State → Prop} {s : State} {kind : UnitKind} {needs : Word → Bool} {aligned : Bool} {go : State → Result}
    (hd : s.unitEnabled kind = false → P (s.takeTrap kind.disabledTrap))
    (hm : aligned = false → P (s.takeTrap .memAddressNotAligned))
    (hx : ((s.syncUnit kind needs).unit kind).excPending = true →
      P ((s.syncUnit kind needs).takeTrap kind.exceptionTrap))
    (hg : s.unitEnabled kind = true → aligned = true → ((s.syncUnit kind needs).unit kind).excPending = false →
      Yields (go (s.syncUnit kind needs)) P) :
    Yields (s.unitChecks kind needs aligned go) P := by
  unfold State.unitChecks
  split
  · split
    · split
      · exact yields_raise (hx ‹_›)
      · exact hg ‹_› ‹_› (Bool.eq_false_iff.mpr ‹_›)
    · exact yields_raise (hm (Bool.eq_false_iff.mpr ‹_›))
  · exact yields_raise (hd (Bool.eq_false_iff.mpr ‹_›))

theorem unitChecks_of_disabled {s : State} {kind : UnitKind} {needs : Word → Bool} {aligned : Bool} {go : State → Result}
    (h : s.unitEnabled kind = false) : s.unitChecks kind needs aligned go = s.raise kind.disabledTrap := by
  simp [State.unitChecks, h]

theorem unitChecks_of_misaligned {s : State} {kind : UnitKind} {needs : Word → Bool} {go : State → Result}
    (h : s.unitEnabled kind = true) : s.unitChecks kind needs false go = s.raise .memAddressNotAligned := by
  simp [State.unitChecks, h]

/-- An idle unit, or one in exception mode, lets its instruction pass unchanged. -/
theorem unitChecks_of_quiet {s : State} {kind : UnitKind} {needs : Word → Bool} {go : State → Result}
    (h : s.unitEnabled kind = true) (hp : (s.unit kind).excPending = false)
    (hq : (s.unit kind).queue = [] ∨ (s.unit kind).excMode = true) : s.unitChecks kind needs true go = go s := by
  have hs : s.syncUnit kind needs = s := hq.elim syncUnit_of_empty fun hm => syncUnit_of_exception (.inr hm)
  simp [State.unitChecks, h, hs, hp]

/-- A pending exception is taken (rule R363). -/
theorem unitChecks_of_pending {s : State} {kind : UnitKind} {needs : Word → Bool} {go : State → Result}
    (h : s.unitEnabled kind = true) (hp : (s.unit kind).excPending = true) :
    s.unitChecks kind needs true go = s.raise kind.exceptionTrap := by
  simp [State.unitChecks, h, syncUnit_of_exception (needs := needs) (.inl hp), hp]

/-- A unit that is ready works on its queue; then the instruction goes on, or the exception of a queued one is taken (rules R363,
R394). -/
theorem unitChecks_of_ready {s : State} {kind : UnitKind} (h : s.UnitReady kind) (needs : Word → Bool) (go : State → Result) :
    (∃ t, s.unitChecks kind needs true go = .next t ∧ s.UnitExcepted t kind) ∨
      ∃ u n, s.UnitWorked kind u needs ∧ s.unitChecks kind needs true go = go (s.afterWork kind (u, n)) := by
  have d := drained_syncUnit h.pending h.exceptionMode needs
  obtain ⟨u, n, e⟩ := syncUnit_eq s kind needs
  unfold State.unitChecks
  rw [if_pos h.enabled, if_pos rfl]
  rw [e, unit_afterWork] at d ⊢
  by_cases hx : u.excPending = true
  · refine .inl ⟨_, by rw [if_pos hx]; rfl, ?_⟩
    have t := traps_takeTrap kind.exceptionTrap (s.afterWork kind (u, n))
    have en := t.entered
    have hv : (State.takeTrap kind.exceptionTrap (s.afterWork kind (u, n))).unit kind = u.acknowledge := by
      cases kind <;> rfl
    exact ⟨⟨en.et, en.supervisor, en.ps, en.cwp, en.pc, en.npc, en.annul, en.tba, en.wim, en.mode⟩, rfl,
      by rw [hv]; rfl, by rw [hv]; rfl, by rw [hv]; exact d.front hx, by rw [hv]; exact d.queue,
      fun k hk => by cases k <;> cases kind <;> first | rfl | exact absurd rfl hk, fun _ _ => rfl, rfl, rfl,
      ⟨t.regs.value, t.regs.parity⟩⟩
  · have hx : u.excPending = false := Bool.eq_false_iff.mpr hx
    refine .inr ⟨u, n, ⟨d.queue, fun e he => ?_, hx, d.exceptionMode.trans h.exceptionMode, d.regs, d.cc hx⟩, by
      rw [hx]; rfl⟩
    simpa using d.waited hx e he

/-! ### Consistency of a unit under what instructions do to it -/

theorem Coproc.Good.acknowledge {u : Coproc} (h : u.Good) (hp : u.excPending = true) : u.acknowledge.Good :=
  ⟨fun h' => (by cases h'), fun _ => (h.pending hp).1⟩

theorem Coproc.Good.launch {u : Coproc} (h : u.Good) (a w : Word) : (u.launch a w).Good := by
  unfold Coproc.launch
  split
  · exact h
  · next hm => exact ⟨fun _ => ⟨by simp, by simpa using hm⟩, fun _ => by simp⟩

theorem Coproc.Good.popQueue {u : Coproc} (hp : u.excPending = false) : u.popQueue.Good :=
  ⟨fun h' => absurd (h'.symm.trans hp) (by decide), fun h' => by
    simp only [Coproc.popQueue, Bool.and_eq_true, Bool.not_eq_true', List.isEmpty_eq_false_iff] at h'
    exact h'.2⟩

/-- Only the queue and the exception state matter. -/
theorem Coproc.Good.of_eq {u v : Coproc} (h : u.Good) (hq : v.queue = u.queue) (hp : v.excPending = u.excPending)
    (hm : v.excMode = u.excMode) : v.Good :=
  ⟨fun h' => hq ▸ hm ▸ h.pending (hp ▸ h'), fun h' => hq ▸ h.exceptionMode (hm ▸ h')⟩

theorem Coproc.Good.accept {u : Coproc} (h : u.Good) {f : Coproc → Coproc} (hq : (f u).queue = u.queue)
    (hp : (f u).excPending = u.excPending) (hm : (f u).excMode = u.excMode) : (u.accept f).Good := by
  unfold Coproc.accept
  split
  · exact h
  · exact h.of_eq hq hp hm

/-! ### A unit's registers -/

theorem Coproc.readReg_writeReg (u : Coproc) (n m : RegNum) (v : Word) :
    (u.writeReg n v).readReg m = if m = n then v else u.readReg m := by
  unfold Coproc.readReg Coproc.writeReg
  by_cases h : m = n
  · subst h; simp
  · rw [if_neg h]
    exact Vector.getElem_set_ne n.isLt m.isLt fun e => h (BitVec.eq_of_toNat_eq e.symm)

end Sys2Proof.Machine
end

