-- ==== Sys2Proof/Laws/Good.lean ====
section
/-! SUPPORT. The operations keep the invariant of the machine. -/

namespace Sys2Proof.Machine

/-- A good state that executes. -/
structure State.Runs (s : State) : Prop where
  good : s.Good
  mode : s.mode = .execute

/-- A state that executes runs well as soon as counters, memory and units are as they should be. -/
theorem State.Runs.intro {s : State} (hpc : s.pc &&& 3#32 = 0#32) (hnpc : s.npc &&& 3#32 = 0#32)
    (hm : Memory.wf s.mem = true) (he : s.mode = .execute) (hf : s.fpu.Good) (hc : s.cp.Good)
    (ht : s.params.pfcTag6 ≠ 0#6) : s.Runs := ⟨⟨hpc, hnpc, hm, hf, hc, ht⟩, he⟩

/-- Only counters, memory, mode and units matter. -/
theorem State.Runs.of_eq {s t : State} (h : s.Runs) (hpc : t.pc = s.pc) (hnpc : t.npc = s.npc) (hm : t.mem = s.mem)
    (he : t.mode = s.mode) (hf : t.fpu = s.fpu) (hc : t.cp = s.cp) (hp : t.params = s.params) : t.Runs :=
  .intro (hpc ▸ h.good.pc) (hnpc ▸ h.good.npc) (hm ▸ h.good.mem) (he ▸ h.mode) (hf ▸ h.good.fpu) (hc ▸ h.good.cp)
    (hp ▸ h.good.pfcTag)

theorem State.Runs.unit {s : State} (h : s.Runs) (k : UnitKind) : (s.unit k).Good := by
  cases k
  · exact h.good.fpu
  · exact h.good.cp

theorem State.Runs.request {s : State} (h : s.Runs) (r : BusRequest) : (s.request r).Runs := h.of_eq rfl rfl rfl rfl rfl rfl rfl

theorem State.Runs.writeReg {s : State} (h : s.Runs) (n : RegNum) (v : Word) : (s.writeReg n v).Runs :=
  h.of_eq rfl rfl rfl rfl rfl rfl rfl

theorem State.Runs.setIcc {s : State} (h : s.Runs) (f : Icc) : (s.setIcc f).Runs := h.of_eq rfl rfl rfl rfl rfl rfl rfl

theorem State.Runs.setCwp {s : State} (h : s.Runs) (w : Window) : (s.setCwp w).Runs := h.of_eq rfl rfl rfl rfl rfl rfl rfl

theorem State.Runs.useFree {s : State} (h : s.Runs) (k : Nat) : (s.useFree k).Runs := h.of_eq rfl rfl rfl rfl rfl rfl rfl

theorem State.Runs.pulse {s : State} (h : s.Runs) (p : Signal) : (s.pulse p).Runs := h.of_eq rfl rfl rfl rfl rfl rfl rfl

theorem State.Runs.storeBytes {s : State} (h : s.Runs) (asi : Asi) (a : Word) (bs : List Byte) :
    (s.storeBytes asi a bs).Runs :=
  .intro h.good.pc h.good.npc (wf_storeBytes h.good.mem _ _ _) h.mode h.good.fpu h.good.cp h.good.pfcTag

theorem State.Runs.setUnit {s : State} (h : s.Runs) (k : UnitKind) {u : Coproc} (hu : u.Good) : (s.setUnit k u).Runs := by
  cases k
  · exact .intro h.good.pc h.good.npc h.good.mem h.mode hu h.good.cp h.good.pfcTag
  · exact .intro h.good.pc h.good.npc h.good.mem h.mode h.good.fpu hu h.good.pfcTag

theorem State.Runs.syncUnit {s : State} (h : s.Runs) (k : UnitKind) (needs : Word → Bool) : (s.syncUnit k needs).Runs := by
  have hk := good_syncUnit (needs := needs) (h.unit k)
  obtain ⟨u, n, e⟩ := syncUnit_eq s k needs
  rw [e] at hk ⊢
  have hu : u.Good := by cases k <;> exact hk
  exact (h.setUnit k hu).of_eq rfl rfl rfl rfl rfl rfl rfl

/-- A trap leaves a good state; an exception trap of a unit needs that exception. -/
theorem State.Runs.takeTrap {s : State} (h : s.Runs) {k : Trap} (hf : k = .fpException → s.fpu.excPending = true)
    (hc : k = .cpException → s.cp.excPending = true) : (s.takeTrap k).Good where
  pc := aligned_vector s k.tt
  npc := aligned_add_four (aligned_vector s k.tt)
  mem := h.good.mem
  fpu := by
    rw [State.takeTrap_fpu]
    split
    · exact h.good.fpu.acknowledge (hf ‹_›)
    · exact h.good.fpu
  cp := by
    rw [State.takeTrap_cp]
    split
    · exact h.good.cp.acknowledge (hc ‹_›)
    · exact h.good.cp
  pfcTag := h.good.pfcTag

/-- A trap that no unit raises. -/
theorem State.Runs.takeTrap' {s : State} (h : s.Runs) {k : Trap} (hf : k ≠ .fpException) (hc : k ≠ .cpException) :
    (s.takeTrap k).Good := h.takeTrap (fun e => absurd e hf) (fun e => absurd e hc)

/-- An instruction that completes in sequence leaves a good state. -/
theorem State.Runs.complete {s : State} (h : s.Runs) : s.retire.advance.Good :=
  (State.Runs.intro (s := s.retire.advance) h.good.npc (aligned_add_four h.good.npc) h.good.mem h.mode h.good.fpu
    h.good.cp h.good.pfcTag).good

/-- A transfer to an aligned address leaves the counters aligned. -/
theorem State.Runs.transfer {s : State} (h : s.Runs) {a : Word} (ha : a &&& 3#32 = 0#32) : (s.transfer a).Runs := by
  refine .intro ?_ ?_ h.good.mem h.mode h.good.fpu h.good.cp h.good.pfcTag
  · rw [State.transfer_pc]
    split
    · exact aligned_freeAligned _
    · exact h.good.npc
  · rw [State.transfer_npc]
    split
    · exact aligned_freeAligned _
    · exact ha

theorem State.Runs.retire {s : State} (h : s.Runs) : s.retire.Runs := h.of_eq rfl rfl rfl rfl rfl rfl rfl

theorem State.Runs.branch {s : State} (h : s.Runs) (cond : BitVec 4) (taken a : Bool) (d : BitVec 22) :
    (s.branch cond taken a d).Runs := by
  refine (h.transfer (a := if taken then s.branchTarget d else s.npc + 4#32) ?_).retire.of_eq rfl rfl rfl rfl rfl rfl rfl
  split
  · exact aligned_branchTarget h.good.pc d
  · exact aligned_add_four h.good.npc

theorem State.Runs.returnFromTrap {s : State} (h : s.Runs) {a : Word} (ha : a &&& 3#32 = 0#32) :
    (s.returnFromTrap a).Runs := (h.transfer ha).retire.of_eq rfl rfl rfl rfl rfl rfl rfl

end Sys2Proof.Machine
end

