-- ==== Sys2Proof/Laws/Parity.lean ====
section
/-! SUPPORT. Hardware errors: which one is taken, what taking it does, and the parity of registers (rules R450 to R457). -/

namespace Sys2Proof.Machine

/-! ### The worst of several errors (rule R454) -/

theorem worstError_eq_none {l : List HwError} (h : worstError l = none) : l = [] := by
  cases l with
  | nil => rfl
  | cons e l =>
    unfold worstError at h
    split at h
    · cases h
    · split at h <;> cases h

/-- The error taken is one of those detected, and none ranks higher. -/
theorem worstError_spec {l : List HwError} {e : HwError} (h : worstError l = some e) :
    e ∈ l ∧ ∀ f ∈ l, e.priority ≤ f.priority := by
  induction l generalizing e with
  | nil => cases h
  | cons a l ih =>
    unfold worstError at h
    split at h
    · next hn => cases h; rw [worstError_eq_none hn]; simp
    · next f hf =>
      have hi := ih hf
      split at h
      · cases h
        refine ⟨List.mem_cons_self, fun z hz => ?_⟩
        rcases List.mem_cons.mp hz with rfl | hz
        · exact le_rfl
        · have := hi.2 z hz; omega
      · cases h
        refine ⟨List.mem_cons_of_mem _ hi.1, fun z hz => ?_⟩
        rcases List.mem_cons.mp hz with rfl | hz
        · omega
        · exact hi.2 z hz

/-! ### The parity check of an instruction's sources -/

/-- Which registers a word reads depends on the window, and their check on the flags, alone. -/
theorem sourceError_congr {s t : State} (hw : t.psr.cwp = s.psr.cwp) (hr : t.regParity = s.regParity)
    (hc : t.controlParity = s.controlParity) (w : Word) : t.sourceError w = s.sourceError w := by
  simp only [State.sourceError, State.sourceErrors, State.sourceIndices, hw, hr, hc]

/-- The errors of the registers that a word reads. -/
theorem mem_sourceErrors {s : State} {w : Word} {e : HwError} :
    e ∈ s.sourceErrors w ↔
      (e = .registerFile ∧ ∃ n ∈ sourceRegs w, n ≠ 0#5 ∧ s.regParity.bad.getLsbD (regIndex s.psr.cwp n) = true) ∨
        ∃ r ∈ sourceControls w, e = r.error ∧ s.controlParity.bad.getLsbD r.index = true := by
  simp only [State.sourceErrors, List.mem_append, List.mem_map, List.mem_filter, State.sourceIndices, bne_iff_ne]
  refine or_congr ⟨?_, ?_⟩ ⟨?_, ?_⟩
  · rintro ⟨i, ⟨⟨n, ⟨hn, h0⟩, rfl⟩, hb⟩, rfl⟩
    exact ⟨rfl, n, hn, h0, hb⟩
  · rintro ⟨rfl, n, hn, h0, hb⟩
    exact ⟨_, ⟨⟨n, ⟨hn, h0⟩, rfl⟩, hb⟩, rfl⟩
  · rintro ⟨r, ⟨hr, hb⟩, rfl⟩
    exact ⟨r, hr, rfl, hb⟩
  · rintro ⟨r, hr, rfl, hb⟩
    exact ⟨r, ⟨hr, hb⟩, rfl⟩

/-- No register that a word reads has a wrong parity bit. -/
theorem sourceError_eq_none {s : State} {w : Word}
    (hr : ∀ n ∈ sourceRegs w, n ≠ 0#5 → s.regParity.bad.getLsbD (regIndex s.psr.cwp n) = false)
    (hc : ∀ r ∈ sourceControls w, s.controlParity.bad.getLsbD r.index = false) : s.sourceError w = none := by
  rcases h : s.sourceError w with _ | e
  · rfl
  · rcases mem_sourceErrors.mp (worstError_spec h).1 with ⟨-, n, hn, h0, hb⟩ | ⟨r, hm, -, hb⟩
    · exact absurd (hr n hn h0) (by simp [hb])
    · exact absurd (hc r hm) (by simp [hb])

/-! ### A machine without upsets (rule R450, U11) -/

theorem State.ParityFaultFree.of_eq {s t : State} (h : s.ParityFaultFree) (hr : t.regParity = s.regParity)
    (hc : t.controlParity = s.controlParity) : t.ParityFaultFree := ⟨hr ▸ h.regs, hc ▸ h.controls⟩

theorem State.ParityFaultFree.writeRegIn {s : State} (h : s.ParityFaultFree) (w : Window) (n : RegNum) (v : Word) :
    (s.writeRegIn w n v).ParityFaultFree where
  regs := by
    rw [State.writeRegIn_regParity]
    split
    · exact h.regs
    · intro i hi
      rw [bad_written, Bool.and_eq_true] at hi
      rw [unwritten_written, h.regs i hi.1, hi.2]
      rfl
  controls := h.controls

theorem State.ParityFaultFree.wroteControl {s : State} (h : s.ParityFaultFree) (r : ControlReg) :
    (s.wroteControl r).ParityFaultFree where
  regs := h.regs
  controls := by
    intro i hi
    rw [State.wroteControl_controlParity, bad_written, Bool.and_eq_true] at hi
    rw [State.wroteControl_controlParity, unwritten_written, h.controls i hi.1, hi.2]
    rfl

theorem State.ParityFaultFree.takeTrap {s : State} (h : s.ParityFaultFree) (k : Trap) : (s.takeTrap k).ParityFaultFree :=
  ((h.writeRegIn (s.psr.cwp - 1#3) 17#5 s.pc).writeRegIn (s.psr.cwp - 1#3) 18#5 s.npc).of_eq rfl rfl

/-- A word that reads no register unwritten since power-up takes no parity trap on a machine without upsets (rule R450). -/
theorem State.ParityFaultFree.sourceError_eq_none {s : State} (h : s.ParityFaultFree) {w : Word}
    (hw : s.readsUnwritten w = false) : s.sourceError w = none := by
  simp only [State.readsUnwritten, Bool.or_eq_false_iff, List.any_eq_false, State.sourceIndices, List.mem_map, List.mem_filter,
    bne_iff_ne] at hw
  refine Machine.sourceError_eq_none (fun n hn h0 => ?_) fun r hr => ?_
  · exact Bool.eq_false_iff.mpr fun hb => hw.1 _ ⟨n, ⟨hn, h0⟩, rfl⟩ (h.regs _ hb)
  · exact Bool.eq_false_iff.mpr fun hb => hw.2 r hr (h.controls _ hb)

/-! ### Taking a hardware error (rule R456) -/

/-- All that taking a hardware-error trap of types 0x61 to 0x65 does. -/
structure State.TakesHwError (e : HwError) (s t : State) : Prop where
  entered : s.EnteredTrap t
  tt : t.tt = e.tt
  hwerror : t.hwerror = s.hwerror.raised e s.pc
  memory : s.SameMemory t
  y : t.y = s.y
  units : s.SameUnits t
  params : t.params = s.params
  icc : t.psr = { s.psr with et := false, ps := s.psr.s, s := true, cwp := s.psr.cwp - 1#3 }
  inputs : t.inputs = { s.inputs with parityErrors := [] }
  saved : e ≠ .nonRestartableImprecise → t.readReg 17#5 = s.pc ∧ t.readReg 18#5 = s.npc
  regs : s.SameRegsBut t [regIndex (s.psr.cwp - 1#3) 17#5, regIndex (s.psr.cwp - 1#3) 18#5]

theorem takesHwError_takeHwError (e : HwError) (s : State) : State.TakesHwError e s (s.takeHwError e) := by
  have t := traps_takeTrap (.hardwareError e)
    ({ s with inputs := { s.inputs with parityErrors := [] }, hwerror := s.hwerror.raised e s.pc } : State)
  have n := t.entered
  have r : s.SameRegsBut (State.takeTrap (.hardwareError e)
      { s with inputs := { s.inputs with parityErrors := [] }, hwerror := s.hwerror.raised e s.pc })
      [regIndex (s.psr.cwp - 1#3) 17#5, regIndex (s.psr.cwp - 1#3) 18#5] := ⟨t.regs.value, t.regs.parity⟩
  unfold State.takeHwError
  by_cases h : e = .nonRestartableImprecise
  · subst h
    rw [if_pos rfl]
    exact ⟨⟨n.et, n.supervisor, n.ps, n.cwp, n.pc, n.npc, n.annul, n.tba, n.wim, n.mode⟩, rfl, rfl, fun _ _ => rfl, rfl,
      ⟨rfl, rfl⟩, rfl, rfl, rfl, fun h => absurd rfl h,
      ((((r.trans (sameRegsBut_writeRegIn _ (s.psr.cwp - 1#3) 17#5 (Config.freeWord s.freeIdx))).trans
        (sameRegsBut_writeRegIn _ (s.psr.cwp - 1#3) 18#5 (Config.freeWord (s.freeIdx + 1)))).mono (by simp)).of_eq rfl rfl rfl)⟩
  · rw [if_neg h]
    exact ⟨⟨n.et, n.supervisor, n.ps, n.cwp, n.pc, n.npc, n.annul, n.tba, n.wim, n.mode⟩, rfl, rfl, fun _ _ => rfl, rfl,
      ⟨rfl, rfl⟩, rfl, rfl, rfl, fun _ => ⟨t.savedPc, t.savedNpc⟩, r⟩

/-- It does not depend on what a fetch changes. -/
theorem State.TakesHwError.of_fields {e : HwError} {s u t : State} (h : u.TakesHwError e t) (hr : s.SameRegsBut u [])
    (hm : s.SameMemory u) (hu : s.SameUnits u) (hpc : u.pc = s.pc) (hnpc : u.npc = s.npc) (hpsr : u.psr = s.psr)
    (htba : u.tba = s.tba) (hwim : u.wim = s.wim) (hmode : u.mode = s.mode) (hy : u.y = s.y) (hp : u.params = s.params)
    (hi : u.inputs = s.inputs) (hh : u.hwerror = s.hwerror) : s.TakesHwError e t where
  entered := ⟨h.entered.et, h.entered.supervisor, hpsr ▸ h.entered.ps, hpsr ▸ h.entered.cwp, h.entered.pc, h.entered.npc,
    h.entered.annul, h.entered.tba.trans htba, h.entered.wim.trans hwim, h.entered.mode.trans (by rw [hpsr, hmode])⟩
  tt := h.tt
  hwerror := h.hwerror.trans (by rw [hh, hpc])
  memory := fun a b => (h.memory a b).trans (hm a b)
  y := h.y.trans hy
  units := ⟨h.units.fpu.trans hu.fpu, h.units.cp.trans hu.cp⟩
  params := h.params.trans hp
  icc := h.icc.trans (by rw [hpsr])
  inputs := h.inputs.trans (by rw [hi])
  saved := fun he => ⟨(h.saved he).1.trans hpc, (h.saved he).2.trans hnpc⟩
  regs := hpsr ▸ hr.trans h.regs

/-- HWERROR is asserted once a hardware error is taken. -/
theorem raised_ne_off (h : HwErrorLevel) (e : HwError) (pc : Word) : h.raised e pc ≠ .off := by
  unfold HwErrorLevel.raised
  split <;> exact nofun

end Sys2Proof.Machine
end

