-- ==== Sys2Proof/Laws/UnitEffects.lean ====
section
/-! SUPPORT. What the instructions of the FPU and the coprocessor do when they end, in the words of Safety. -/

namespace Sys2Proof.Machine

theorem unit_setUnit_self (s : State) (k : UnitKind) (u : Coproc) : (s.setUnit k u).unit k = u := by cases k <;> rfl

theorem unit_setUnit_other (s : State) {k other : UnitKind} (h : other ≠ k) (u : Coproc) :
    (s.setUnit k u).unit other = s.unit other := by
  cases k <;> cases other <;> first | rfl | exact absurd rfl h

theorem unit_request (s : State) (r : BusRequest) (k : UnitKind) : (s.request r).unit k = s.unit k := by cases k <;> rfl

theorem unit_useFree (s : State) (n : Nat) (k : UnitKind) : (s.useFree n).unit k = s.unit k := by cases k <;> rfl

theorem unit_retire_advance (s : State) (k : UnitKind) : s.retire.advance.unit k = s.unit k := by cases k <;> rfl

theorem unit_pulse (s : State) (p : Signal) (k : UnitKind) : (s.pulse p).unit k = s.unit k := by cases k <;> rfl

theorem State.Keeps.unit {s u : State} (h : s.Keeps u) (k : UnitKind) : u.unit k = s.unit k := by
  cases k
  · exact h.units.fpu
  · exact h.units.cp

/-- A unit that is not in exception mode accepts what it is given (rule R363). -/
theorem accept_of_mode {u : Coproc} (h : u.excMode = false) (f : Coproc → Coproc) : u.accept f = f u := by
  simp [Coproc.accept, h]

/-- All but registers, memory, the bus log and one unit stayed, and the instruction completes. -/
theorem onlyUnit_of_fields {s u : State} {kind : UnitKind} (hregs : s.SameRegsBut u []) (hpsr : u.psr = s.psr) (hy : u.y = s.y)
    (hcontrol : s.SameControl u) (hother : ∀ k, k ≠ kind → u.unit k = s.unit k)
    (hends : u.npc = s.npc ∧ u.annul = s.annul ∧ u.checksum = s.checksum ∧ u.ir = s.ir) :
    s.OnlyUnit u.retire.advance kind where
  regs := hregs.of_eq rfl rfl rfl
  psr := hpsr
  y := hy
  control := ⟨hcontrol.params, hcontrol.mode, hcontrol.wim, hcontrol.tba, hcontrol.tt, hcontrol.pfcSkip,
    hcontrol.controlParity, hcontrol.hwerror, hcontrol.platform, hcontrol.inputs⟩
  other := fun k h => (unit_retire_advance u k).trans (hother k h)
  ends :=
    ⟨hends.1, congrArg (· + 4#32) hends.1, hends.2.1, by
      show (if u.params.flowEnabled then u.checksum ^^^ u.ir else u.checksum) = _
      rw [hcontrol.params, hends.2.2.1, hends.2.2.2], rfl⟩

/-- The same of a unit that is given a new state. -/
theorem onlyUnit_of_keeps {s u : State} (hk : s.Keeps u) (hregs : s.SameRegsBut u []) (kind : UnitKind) (v : Coproc)
    (n : Nat) : s.OnlyUnit ((u.setUnit kind v).useFree n).retire.advance kind :=
  onlyUnit_of_fields (hregs.of_eq rfl rfl rfl) hk.psr hk.y
    ⟨hk.control.params, hk.control.mode, hk.control.wim, hk.control.tba, hk.control.tt, hk.control.pfcSkip,
      hk.control.controlParity, hk.control.hwerror, hk.control.platform, hk.control.inputs⟩
    (fun k h => by rw [unit_useFree, unit_setUnit_other _ h, hk.unit]) ⟨hk.npc, hk.annul, hk.checksum, hk.ir⟩

/-- A start signal pulses, and the instruction completes (rules R364, R365). -/
theorem launch_ends (s : State) (kind : UnitKind) (v : Coproc) (k : Nat) (p : Signal) :
    s.OnlyUnit (((s.setUnit kind v).pulse p).useFree k).retire.advance kind ∧
      s.SameMemory (((s.setUnit kind v).pulse p).useFree k).retire.advance ∧
      (((s.setUnit kind v).pulse p).useFree k).retire.advance.bus = s.bus ∧
      (((s.setUnit kind v).pulse p).useFree k).retire.advance.signals = s.signals ++ [p] ∧
      (((s.setUnit kind v).pulse p).useFree k).retire.advance.unit kind = v := by
  refine ⟨?_, ?_, by simp, by simp, ?_⟩
  · refine onlyUnit_of_fields ?_ ?_ ?_ ?_ (fun k h => ?_) ?_
    · apply sameRegsBut_of_eq <;> simp
    · simp
    · simp
    · constructor <;> simp
    · rw [unit_useFree, unit_pulse, unit_setUnit_other _ h]
    · simp
  · apply sameMemory_of_mem <;> simp
  · rw [unit_retire_advance, unit_useFree, unit_pulse, unit_setUnit_self]

/-- A unit takes what a load brings, and the instruction completes (rules R366 to R368, R376 to R378). -/
theorem accept_ends {s u : State} {requests : List BusRequest} (hk : s.Keeps u) (hregs : s.SameRegsBut u [])
    (hm : u.mem = s.mem) (hp : u.platform = s.platform) (hbus : u.bus = s.bus ++ requests) (kind : UnitKind) (f : Coproc → Coproc) :
    s.OnlyUnit (u.setUnit kind ((u.unit kind).accept f)).retire.advance kind ∧
      s.SameMemory (u.setUnit kind ((u.unit kind).accept f)).retire.advance ∧
      s.BusGrows (u.setUnit kind ((u.unit kind).accept f)).retire.advance requests ∧
      (u.setUnit kind ((u.unit kind).accept f)).retire.advance.unit kind = (s.unit kind).accept f := by
  refine ⟨onlyUnit_of_keeps hk hregs kind _ 0, ?_, ⟨?_, ?_⟩, ?_⟩
  · apply sameMemory_of_mem <;> simp [hm, hp]
  · simp [hbus]
  · simp [hk.signals]
  · rw [unit_retire_advance, unit_setUnit_self, hk.unit]

/-! ### Work on the queue before the instruction: what holds from the state after it holds from the state before -/

theorem State.OnlyUnit.of_work {s t : State} {kind : UnitKind} {r : Coproc × Nat} (h : (s.afterWork kind r).OnlyUnit t kind) :
    s.OnlyUnit t kind where
  regs := (sameRegsBut_of_eq (s := s) (t := s.afterWork kind r) (l := []) rfl rfl rfl).trans h.regs
  psr := h.psr
  y := h.y
  control := ⟨h.control.params, h.control.mode, h.control.wim, h.control.tba, h.control.tt, h.control.pfcSkip,
    h.control.controlParity, h.control.hwerror, h.control.platform, h.control.inputs⟩
  other := fun k hk => (h.other k hk).trans (unit_afterWork_other s hk r)
  ends := ⟨h.ends.pc, h.ends.npc, h.ends.annul, h.ends.checksum, h.ends.afterCondBranch⟩

/-- The state in which a unit has worked, but for the free values used. -/
theorem sameRegsBut_work {s t : State} {kind : UnitKind} {r : Coproc × Nat} {l : List Nat}
    (h : (s.afterWork kind r).SameRegsBut t l) : (s.setUnit kind r.1).SameRegsBut t l :=
  (sameRegsBut_of_eq (s := s.setUnit kind r.1) (t := s.afterWork kind r) (l := []) rfl rfl rfl).trans h

theorem State.Moves.of_work {s t : State} {kind : UnitKind} {r : Coproc × Nat} {l : List Nat} {asi : Asi} {ea : Word} {n : Nat}
    {q : List BusRequest} (h : (s.afterWork kind r).Moves t l asi ea n q) : (s.setUnit kind r.1).Moves t l asi ea n q where
  regs := sameRegsBut_work h.regs
  psr := h.psr
  y := h.y
  memory := fun a b hb => (h.memory a b hb).trans (readByte_congr rfl rfl a b)
  control := ⟨h.control.params, h.control.mode, h.control.wim, h.control.tba, h.control.tt, h.control.pfcSkip,
    h.control.controlParity, h.control.hwerror, h.control.platform, h.control.inputs⟩
  units := ⟨h.units.fpu, h.units.cp⟩
  bus := ⟨h.bus.bus, h.bus.signals⟩
  ends := ⟨h.ends.pc, h.ends.npc, h.ends.annul, h.ends.checksum, h.ends.afterCondBranch⟩

theorem State.Branches.of_work {s t : State} {kind : UnitKind} {r : Coproc × Nat} {taken always a : Bool} {target : Word}
    (h : (s.afterWork kind r).Branches t taken always a target) : (s.setUnit kind r.1).Branches t taken always a target where
  regs := sameRegsBut_work h.regs
  psr := h.psr
  y := h.y
  memory := fun a b => (h.memory a b).trans (readByte_congr rfl rfl a b)
  control := ⟨h.control.params, h.control.mode, h.control.wim, h.control.tba, h.control.tt, h.control.pfcSkip,
    h.control.controlParity, h.control.hwerror, h.control.platform, h.control.inputs⟩
  units := ⟨h.units.fpu, h.units.cp⟩
  bus := ⟨h.bus.bus, h.bus.signals⟩
  ends := ⟨h.ends.pc, h.ends.npc, h.ends.pcAligned, h.ends.npcAligned, h.ends.checksum⟩
  annul := h.annul
  afterCondBranch := h.afterCondBranch

/-- Using no free value changes nothing. -/
theorem useFree_zero (s : State) : s.useFree 0 = s := rfl

end Sys2Proof.Machine
end

