-- ==== Sys2Proof/Laws/Shape.lean ====
section
/-! SUPPORT. One law for all meanings: what holds of the states an instruction goes through, and what that gives for its end. A
statement about every instruction is proved by giving its Shape. -/

namespace Sys2Proof.Machine

/-- The instructions that check S (rule R480). -/
def checksSupervisor : Instr → Bool
  | .rdpsr .. | .rdwim .. | .rdtbr .. | .wrpsr .. | .wrwim .. | .wrtbr .. | .rett .. | .stdfq .. | .stdcq .. | .lda ..
    | .lduba .. | .lduha .. | .ldda .. | .sta .. | .stba .. | .stha .. | .stda .. | .ldsba .. | .ldsha .. | .ldstuba
    .. | .swapa .. => true
  | _ => false

/-- A predicate R on the states inside an instruction, closed under what instructions do on the way, and a predicate P that
every end of an instruction reaches from R. The fields with side conditions hold only where those conditions do. -/
structure Shape (i : Instr) (R P : State → Prop) : Prop where
  request : ∀ s r, R s → R (s.request r)
  writeReg : ∀ s n v, R s → R (s.writeReg n v)
  storeBytes : ∀ s asi a bs, R s → R (s.storeBytes asi a bs)
  setFree : ∀ (s : State) n, R s → R { s with freeIdx := n }
  setUnit : ∀ s k u, R s → ((s.unit k).Good → u.Good) → R (s.setUnit k u)
  complete : ∀ s, R s → P s.retire.advance
  flags : ∀ s f, R s → P (s.setIcc f).retire.advance
  multiply : ∀ (s : State) f y, R s → P (State.wroteControl { s.setIcc f with y := y } .y).retire.advance
  pulsed : ∀ s p, R s → P ((s.pulse p).useFree 1).retire.advance
  branch : ∀ s cond taken a d, R s → P (s.branch cond taken a d)
  call : ∀ s d, R s → P (((s.writeReg 15#5 s.pc).transfer (s.callTarget d)).retire)
  jump : ∀ s a, R s → a &&& 3#32 = 0#32 → P (s.transfer a).retire
  closeBlock : ∀ s b, R s → P (s.closeBlock b).advance
  window : ∀ (s : State) w rd v, R s → s.windowInvalid w = false → w = s.psr.cwp - 1#3 ∨ w = s.psr.cwp + 1#3 →
    P ((s.setCwp w).writeReg rd v).retire.advance
  returns : ∀ (s : State) a, R s → s.psr.et = false → s.psr.s = true → a &&& 3#32 = 0#32 → P (s.returnFromTrap a)
  wry : ∀ (s : State) v, R s → P (State.wroteControl { s with y := v } .y).retire.advance
  wrpsr : ∀ (s : State) p, R s → s.psr.s = true → P (State.wroteControl { s with psr := p } .psr).retire.advance
  wrwim : ∀ (s : State) v, R s → s.psr.s = true → P (State.wroteControl { s with wim := v } .wim).retire.advance
  wrtbr : ∀ (s : State) v, R s → s.psr.s = true → P (State.wroteControl { s with tba := v } .tbr).retire.advance
  trap : ∀ (s : State) k, R s → (k = .fpException → s.fpu.excPending = true) → (k = .cpException → s.cp.excPending = true) →
    (k = .privilegedInstruction → checksSupervisor i = true ∧ s.psr.s = false) → P (s.takeTrap k)

section

variable {i : Instr} {R P : State → Prop} {s : State}

theorem Shape.trap' (S : Shape i R P) (h : R s) {k : Trap} (hf : k ≠ .fpException) (hc : k ≠ .cpException)
    (hp : k ≠ .privilegedInstruction) : P (s.takeTrap k) :=
  S.trap s k h (fun e => absurd e hf) (fun e => absurd e hc) fun e => absurd e hp

theorem Shape.raise (S : Shape i R P) (h : R s) {k : Trap} (hf : k ≠ .fpException) (hc : k ≠ .cpException)
    (hp : k ≠ .privilegedInstruction) : Yields (s.raise k) P := yields_raise (S.trap' h hf hc hp)

theorem Shape.supervisor (S : Shape i R P) (h : R s) (hi : checksSupervisor i = true) {r : Result}
    (hr : s.psr.s = true → Yields r P) : Yields (s.supervisorOnly r) P :=
  yields_supervisorOnly (fun hu => S.trap s _ h (fun e => nomatch e) (fun e => nomatch e) fun _ => ⟨hi, hu⟩) hr

theorem Shape.aligned (S : Shape i R P) (h : R s) {z : Size} {ea : Word} {r : Result}
    (hr : z.aligned ea = true → Yields r P) : Yields (s.whenAligned z ea r) P :=
  yields_whenAligned (fun _ => S.trap' h (fun e => nomatch e) (fun e => nomatch e) fun e => nomatch e) hr

theorem Shape.read (S : Shape i R P) (h : R s) {asi : Asi} {ea : Word} {z : Size} {l k : Bool} {f : State → State}
    {go : State → Result} (hf : R s → R (f s)) (hg : ∀ r, R (s.request r) → Yields (go (s.request r)) P) :
    Yields (s.readAccess asi ea z l k f go) P :=
  yields_readAccess (S.trap' (S.request _ _ (hf h)) (fun e => nomatch e) (fun e => nomatch e) fun e => nomatch e)
    fun _ => hg _ (S.request _ _ h)

theorem Shape.write (S : Shape i R P) (h : R s) {asi : Asi} {ea : Word} {z : Size} {l k : Bool} {bs : List Byte}
    {f : State → State} {go : State → Result} (hf : R s → R (f s))
    (hg : ∀ r, R ((s.request r).storeBytes asi ea bs) → Yields (go ((s.request r).storeBytes asi ea bs)) P) :
    Yields (s.writeAccess asi ea z l k bs f go) P :=
  yields_writeAccess (S.trap' (S.request _ _ (hf h)) (fun e => nomatch e) (fun e => nomatch e) fun e => nomatch e)
    fun _ => hg _ (S.storeBytes _ _ _ _ (S.request _ _ h))

theorem Shape.two (S : Shape i R P) (h : R s) {asi : Asi} {ea hi lo : Word} {go : State → Result}
    (hg : ∀ r q, R ((((s.request r).storeBytes asi ea (bytesOfData hi)).request q).storeBytes asi (ea + 4#32) (bytesOfData lo)) →
      Yields (go ((((s.request r).storeBytes asi ea (bytesOfData hi)).request q).storeBytes asi (ea + 4#32) (bytesOfData lo))) P) :
    Yields (s.storeTwo asi ea hi lo go) P :=
  S.write h id fun _ h1 => S.write h1 id fun _ h2 => hg _ _ h2

theorem Shape.sync (S : Shape i R P) (h : R s) (k : UnitKind) (needs : Word → Bool) : R (s.syncUnit k needs) := by
  have hg := good_syncUnit (s := s) (kind := k) (needs := needs)
  obtain ⟨u, n, e⟩ := syncUnit_eq s k needs
  rw [e] at hg ⊢
  exact S.setFree _ _ (S.setUnit s k u h fun hk => by have := hg hk; cases k <;> exact this)

theorem Shape.checks (S : Shape i R P) (h : R s) {k : UnitKind} {needs : Word → Bool} {al : Bool} {go : State → Result}
    (hg : al = true → R (s.syncUnit k needs) → ((s.syncUnit k needs).unit k).excPending = false →
      Yields (go (s.syncUnit k needs)) P) : Yields (s.unitChecks k needs al go) P := by
  refine yields_unitChecks (fun _ => ?_) (fun _ => S.trap' h (fun e => nomatch e) (fun e => nomatch e) fun e => nomatch e)
    (fun hx => ?_) fun _ ha hx => hg ha (S.sync h k needs) hx
  · cases k <;> exact S.trap' h (fun e => nomatch e) (fun e => nomatch e) fun e => nomatch e
  · cases k
    · exact S.trap _ _ (S.sync h _ _) (fun _ => hx) (fun e => nomatch e) fun e => nomatch e
    · exact S.trap _ _ (S.sync h _ _) (fun e => nomatch e) (fun _ => hx) fun e => nomatch e

theorem Shape.useFree (S : Shape i R P) (h : R s) (n : Nat) : R (s.useFree n) := S.setFree _ _ h

theorem Shape.useDriven (S : Shape i R P) (h : R s) (k : UnitKind) (n : Nat) : R (s.useDriven k n) := by
  unfold State.useDriven
  split
  · exact S.useFree h n
  · exact h

theorem Shape.accept (S : Shape i R P) (h : R s) (k : UnitKind) {f : Coproc → Coproc}
    (hf : ∀ v : Coproc, (f v).queue = v.queue ∧ (f v).excPending = v.excPending ∧ (f v).excMode = v.excMode) :
    R (s.setUnit k ((s.unit k).accept f)) :=
  S.setUnit s k _ h fun hu => hu.accept (hf _).1 (hf _).2.1 (hf _).2.2

/-! ### The shared meanings -/

theorem Shape.write1 (S : Shape i R P) (h : R s) {rd : RegNum} {v : Word} : Yields (s.writeReg rd v).complete P :=
  yields_complete (S.complete _ (S.writeReg _ _ _ h))

theorem Shape.logicCc (S : Shape i R P) (h : R s) {rd : RegNum} {res : Word} : Yields (s.logicCc rd res) P :=
  yields_complete (S.flags _ _ (S.writeReg _ _ _ h))

theorem Shape.arithCc (S : Shape i R P) (h : R s) {rd : RegNum} {res : Word} {f : Icc} : Yields (s.arithCc rd res f) P :=
  yields_complete (S.flags _ _ (S.writeReg _ _ _ h))

theorem Shape.taggedTv (S : Shape i R P) (h : R s) {rd : RegNum} {res : Word} {f : Icc} : Yields (s.taggedTv rd res f) P := by
  unfold State.taggedTv
  split
  · exact S.raise h (fun e => nomatch e) (fun e => nomatch e) fun e => nomatch e
  · exact S.arithCc h

theorem Shape.enterWindow (S : Shape i R P) (h : R s) {w : Window} {k : Trap} {rd : RegNum} {res : Word}
    (hw : w = s.psr.cwp - 1#3 ∨ w = s.psr.cwp + 1#3) (hk : k = .windowOverflow ∨ k = .windowUnderflow) :
    Yields (s.enterWindow w k rd res) P := by
  unfold State.enterWindow
  split
  · rcases hk with rfl | rfl <;> exact S.raise h (fun e => nomatch e) (fun e => nomatch e) fun e => nomatch e
  · next hv => exact yields_complete (S.window _ _ _ _ h (by simpa using hv) hw)

theorem Shape.sethi (S : Shape i R P) (h : R s) {rd : RegNum} {c : BitVec 22} : Yields (execSethi rd c s) P := by
  unfold execSethi
  split
  · unfold State.checkFlow
    split
    · exact yields_next (S.closeBlock _ _ h)
    · split
      · exact yields_next (S.closeBlock _ _ h)
      · exact S.raise h (fun e => nomatch e) (fun e => nomatch e) fun e => nomatch e
  · exact S.write1 h

theorem Shape.iflush (S : Shape i R P) (h : R s) {rs1 : RegNum} {op2 : Operand2} : Yields (execIflush rs1 op2 s) P := by
  unfold execIflush
  split
  · exact S.raise h (fun e => nomatch e) (fun e => nomatch e) fun e => nomatch e
  · exact yields_complete (S.complete _ h)

theorem Shape.bicc (S : Shape i R P) (h : R s) {c : BitVec 4} {a : Bool} {d : BitVec 22} : Yields (s.branchIcc c a d) P :=
  yields_next (S.branch _ _ _ _ _ h)

theorem Shape.bccc (S : Shape i R P) (h : R s) {c : BitVec 4} {a : Bool} {d : BitVec 22} : Yields (s.branchCcc c a d) P :=
  S.checks h fun _ h _ => yields_next (S.branch _ _ _ _ _ h)

theorem Shape.bfcc (S : Shape i R P) (h : R s) {c : BitVec 4} {a : Bool} {d : BitVec 22} : Yields (s.branchFcc c a d) P := by
  unfold State.branchFcc
  split
  · exact S.raise h (fun e => nomatch e) (fun e => nomatch e) fun e => nomatch e
  · exact S.checks h fun _ h _ => yields_next (S.branch _ _ _ _ _ h)

theorem Shape.ticc (S : Shape i R P) (h : R s) {c : BitVec 4} {rs1 : RegNum} {op2 : Operand2} :
    Yields (s.trapIcc c rs1 op2) P := by
  unfold State.trapIcc
  split
  · exact S.raise h (fun e => nomatch e) (fun e => nomatch e) fun e => nomatch e
  · exact yields_complete (S.complete _ h)

theorem Shape.callTo (S : Shape i R P) (h : R s) {d : BitVec 30} : Yields (execCall d s) P := yields_next (S.call _ _ h)

theorem Shape.jmpl (S : Shape i R P) (h : R s) {rd rs1 : RegNum} {op2 : Operand2} : Yields (execJmpl rd rs1 op2 s) P :=
  S.aligned h fun ha => yields_jump (S.jump _ _ (S.writeReg _ _ _ h) ((aligned_word_iff _).mp ha))

theorem Shape.rett (S : Shape i R P) (h : R s) (hi : checksSupervisor i = true) {rs1 : RegNum} {op2 : Operand2} :
    Yields (execRett rs1 op2 s) P := by
  unfold execRett
  split
  · exact S.raise h (fun e => nomatch e) (fun e => nomatch e) fun e => nomatch e
  · next he =>
    refine S.supervisor h hi fun hs => ?_
    split
    · exact S.raise h (fun e => nomatch e) (fun e => nomatch e) fun e => nomatch e
    · exact S.aligned h fun ha => yields_next (S.returns _ _ h (by simpa using he) hs ((aligned_word_iff _).mp ha))

theorem Shape.wrpsrTo (S : Shape i R P) (h : R s) (hi : checksSupervisor i = true) {rs1 : RegNum} {op2 : Operand2} :
    Yields (execWrpsr rs1 op2 s) P := by
  unfold execWrpsr
  split
  · exact S.raise h (fun e => nomatch e) (fun e => nomatch e) fun e => nomatch e
  · exact S.supervisor h hi fun hs => yields_complete (S.wrpsr _ _ h hs)

theorem Shape.loadByte (S : Shape i R P) (h : R s) {asi : Asi} {ea : Word} {rd : RegNum} {e : Byte → Word} :
    Yields (s.loadByte asi ea rd e) P := S.read h id fun _ h => S.write1 h

theorem Shape.loadHalf (S : Shape i R P) (h : R s) {asi : Asi} {ea : Word} {rd : RegNum} {e : BitVec 16 → Word} :
    Yields (s.loadHalf asi ea rd e) P := S.aligned h fun _ => S.read h id fun _ h => S.write1 h

theorem Shape.loadWord (S : Shape i R P) (h : R s) {asi : Asi} {ea : Word} {rd : RegNum} : Yields (s.loadWord asi ea rd) P :=
  S.aligned h fun _ => S.read h id fun _ h => S.write1 h

theorem Shape.loadDouble (S : Shape i R P) (h : R s) {asi : Asi} {ea : Word} {rd : RegNum} :
    Yields (s.loadDouble asi ea rd) P :=
  S.aligned h fun _ => S.read h id fun _ h =>
    S.read h (fun h => S.useFree (by split; exacts [S.writeReg _ _ _ h, h]) 2) fun _ h => S.write1 (S.writeReg _ _ _ h)

theorem Shape.storeByte (S : Shape i R P) (h : R s) {asi : Asi} {ea : Word} {rd : RegNum} : Yields (s.storeByte asi ea rd) P :=
  S.write h id fun _ h => yields_complete (S.complete _ h)

theorem Shape.storeHalf (S : Shape i R P) (h : R s) {asi : Asi} {ea : Word} {rd : RegNum} : Yields (s.storeHalf asi ea rd) P :=
  S.aligned h fun _ => S.write h id fun _ h => yields_complete (S.complete _ h)

theorem Shape.storeWord (S : Shape i R P) (h : R s) {asi : Asi} {ea : Word} {rd : RegNum} : Yields (s.storeWord asi ea rd) P :=
  S.aligned h fun _ => S.write h id fun _ h => yields_complete (S.complete _ h)

theorem Shape.storeDouble (S : Shape i R P) (h : R s) {asi : Asi} {ea : Word} {rd : RegNum} :
    Yields (s.storeDouble asi ea rd) P := S.aligned h fun _ => S.two h fun _ _ h => yields_complete (S.complete _ h)

theorem Shape.exchange (S : Shape i R P) (h : R s) {asi : Asi} {ea : Word} {z : Size} {rd : RegNum} {old : Word}
    {bs : List Byte} : Yields (s.exchange asi ea z rd old bs) P :=
  S.read h id fun _ h =>
    S.write h (fun h => by
      show R (State.useFree _ 1)
      refine S.useFree ?_ 1
      split
      · exact S.writeReg _ _ _ h
      · exact h) fun _ h => S.write1 h

theorem Shape.swapWord (S : Shape i R P) (h : R s) {asi : Asi} {ea : Word} {rd : RegNum} : Yields (s.swapWord asi ea rd) P :=
  S.aligned h fun _ => S.exchange h

theorem Shape.operate (S : Shape i R P) (h : R s) {k : UnitKind} {w : Word} : Yields (s.operate k w) P :=
  S.checks h fun _ h _ => yields_complete (S.pulsed _ _ (S.setUnit _ k _ h fun hu => hu.launch _ _))

theorem Shape.unitLoad (S : Shape i R P) (h : R s) {k : UnitKind} {rd : RegNum} {ea : Word} : Yields (s.unitLoad k rd ea) P :=
  S.checks h fun _ h _ => S.read h id fun _ h => yields_complete (S.complete _ (S.accept h k fun _ => ⟨rfl, rfl, rfl⟩))

theorem Shape.unitLoadDouble (S : Shape i R P) (h : R s) {k : UnitKind} {rd : RegNum} {ea : Word} :
    Yields (s.unitLoadDouble k rd ea) P :=
  S.checks h fun _ h _ => S.read h id fun _ h =>
    S.read h (fun h => S.useFree (S.accept h k (f := fun u => u.writeReg _ (Config.freeWord _)) fun _ => ⟨rfl, rfl, rfl⟩) 1) fun _ h =>
      yields_complete (S.complete _ (S.accept h k fun _ => ⟨rfl, rfl, rfl⟩))

theorem Shape.unitLoadStatus (S : Shape i R P) (h : R s) {k : UnitKind} {ea : Word} : Yields (s.unitLoadStatus k ea) P :=
  S.checks h fun _ h _ => S.read h id fun _ h => yields_complete (S.complete _ (S.accept h k fun _ => ⟨rfl, rfl, rfl⟩))

theorem Shape.unitStoreWord (S : Shape i R P) (h : R s) {k : UnitKind} {needs : Word → Bool} {ea : Word}
    {v : Coproc → Word} : Yields (s.unitStoreWord k needs ea v) P :=
  S.checks h fun _ h _ => S.write h id fun _ h => yields_complete (S.complete _ (S.useDriven h k 1))

theorem Shape.unitStoreDouble (S : Shape i R P) (h : R s) {k : UnitKind} {rd : RegNum} {ea : Word} :
    Yields (s.unitStoreDouble k rd ea) P :=
  S.checks h fun _ h _ => S.two h fun _ _ h => yields_complete (S.complete _ (S.useDriven h k 2))

theorem Shape.unitStoreQueue (S : Shape i R P) (h : R s) (hi : checksSupervisor i = true) {k : UnitKind} {ea : Word} :
    Yields (s.unitStoreQueue k ea) P :=
  S.supervisor h hi fun _ => S.checks h fun _ h hx => S.two h fun _ _ h =>
    yields_complete (S.complete _ (S.useFree (S.setUnit _ k _ h fun _ =>
      Coproc.Good.popQueue (((two_keeps _ _ _ _ _ _ _ _).1.unit k).symm ▸ hx)) _))

/-! ### The instructions -/

theorem shape_unimp {const22} (S : Shape (.unimp const22) R P) (h : R s) : Yields (exec (.unimp const22) s) P := by
  rw [exec_unimp, execUnimp]; exact S.raise h (fun e => nomatch e) (fun e => nomatch e) fun e => nomatch e

theorem shape_sethi {rd imm22} (S : Shape (.sethi rd imm22) R P) (h : R s) : Yields (exec (.sethi rd imm22) s) P := by
  rw [exec_sethi]; exact S.sethi h

theorem shape_bn {a disp22} (S : Shape (.bn a disp22) R P) (h : R s) : Yields (exec (.bn a disp22) s) P := by
  rw [exec_bn, execBn]; exact S.bicc h

theorem shape_be {a disp22} (S : Shape (.be a disp22) R P) (h : R s) : Yields (exec (.be a disp22) s) P := by
  rw [exec_be, execBe]; exact S.bicc h

theorem shape_ble {a disp22} (S : Shape (.ble a disp22) R P) (h : R s) : Yields (exec (.ble a disp22) s) P := by
  rw [exec_ble, execBle]; exact S.bicc h

theorem shape_bl {a disp22} (S : Shape (.bl a disp22) R P) (h : R s) : Yields (exec (.bl a disp22) s) P := by
  rw [exec_bl, execBl]; exact S.bicc h

theorem shape_bleu {a disp22} (S : Shape (.bleu a disp22) R P) (h : R s) : Yields (exec (.bleu a disp22) s) P := by
  rw [exec_bleu, execBleu]; exact S.bicc h

theorem shape_bcs {a disp22} (S : Shape (.bcs a disp22) R P) (h : R s) : Yields (exec (.bcs a disp22) s) P := by
  rw [exec_bcs, execBcs]; exact S.bicc h

theorem shape_bneg {a disp22} (S : Shape (.bneg a disp22) R P) (h : R s) : Yields (exec (.bneg a disp22) s) P := by
  rw [exec_bneg, execBneg]; exact S.bicc h

theorem shape_bvs {a disp22} (S : Shape (.bvs a disp22) R P) (h : R s) : Yields (exec (.bvs a disp22) s) P := by
  rw [exec_bvs, execBvs]; exact S.bicc h

theorem shape_ba {a disp22} (S : Shape (.ba a disp22) R P) (h : R s) : Yields (exec (.ba a disp22) s) P := by
  rw [exec_ba, execBa]; exact S.bicc h

theorem shape_bne {a disp22} (S : Shape (.bne a disp22) R P) (h : R s) : Yields (exec (.bne a disp22) s) P := by
  rw [exec_bne, execBne]; exact S.bicc h

theorem shape_bg {a disp22} (S : Shape (.bg a disp22) R P) (h : R s) : Yields (exec (.bg a disp22) s) P := by
  rw [exec_bg, execBg]; exact S.bicc h

theorem shape_bge {a disp22} (S : Shape (.bge a disp22) R P) (h : R s) : Yields (exec (.bge a disp22) s) P := by
  rw [exec_bge, execBge]; exact S.bicc h

theorem shape_bgu {a disp22} (S : Shape (.bgu a disp22) R P) (h : R s) : Yields (exec (.bgu a disp22) s) P := by
  rw [exec_bgu, execBgu]; exact S.bicc h

theorem shape_bcc {a disp22} (S : Shape (.bcc a disp22) R P) (h : R s) : Yields (exec (.bcc a disp22) s) P := by
  rw [exec_bcc, execBcc]; exact S.bicc h

theorem shape_bpos {a disp22} (S : Shape (.bpos a disp22) R P) (h : R s) : Yields (exec (.bpos a disp22) s) P := by
  rw [exec_bpos, execBpos]; exact S.bicc h

theorem shape_bvc {a disp22} (S : Shape (.bvc a disp22) R P) (h : R s) : Yields (exec (.bvc a disp22) s) P := by
  rw [exec_bvc, execBvc]; exact S.bicc h

theorem shape_fbn {a disp22} (S : Shape (.fbn a disp22) R P) (h : R s) : Yields (exec (.fbn a disp22) s) P := by
  rw [exec_fbn, execFbn]; exact S.bfcc h

theorem shape_fbne {a disp22} (S : Shape (.fbne a disp22) R P) (h : R s) : Yields (exec (.fbne a disp22) s) P := by
  rw [exec_fbne, execFbne]; exact S.bfcc h

theorem shape_fblg {a disp22} (S : Shape (.fblg a disp22) R P) (h : R s) : Yields (exec (.fblg a disp22) s) P := by
  rw [exec_fblg, execFblg]; exact S.bfcc h

theorem shape_fbul {a disp22} (S : Shape (.fbul a disp22) R P) (h : R s) : Yields (exec (.fbul a disp22) s) P := by
  rw [exec_fbul, execFbul]; exact S.bfcc h

theorem shape_fbl {a disp22} (S : Shape (.fbl a disp22) R P) (h : R s) : Yields (exec (.fbl a disp22) s) P := by
  rw [exec_fbl, execFbl]; exact S.bfcc h

theorem shape_fbug {a disp22} (S : Shape (.fbug a disp22) R P) (h : R s) : Yields (exec (.fbug a disp22) s) P := by
  rw [exec_fbug, execFbug]; exact S.bfcc h

theorem shape_fbg {a disp22} (S : Shape (.fbg a disp22) R P) (h : R s) : Yields (exec (.fbg a disp22) s) P := by
  rw [exec_fbg, execFbg]; exact S.bfcc h

theorem shape_fbu {a disp22} (S : Shape (.fbu a disp22) R P) (h : R s) : Yields (exec (.fbu a disp22) s) P := by
  rw [exec_fbu, execFbu]; exact S.bfcc h

theorem shape_fba {a disp22} (S : Shape (.fba a disp22) R P) (h : R s) : Yields (exec (.fba a disp22) s) P := by
  rw [exec_fba, execFba]; exact S.bfcc h

theorem shape_fbe {a disp22} (S : Shape (.fbe a disp22) R P) (h : R s) : Yields (exec (.fbe a disp22) s) P := by
  rw [exec_fbe, execFbe]; exact S.bfcc h

theorem shape_fbue {a disp22} (S : Shape (.fbue a disp22) R P) (h : R s) : Yields (exec (.fbue a disp22) s) P := by
  rw [exec_fbue, execFbue]; exact S.bfcc h

theorem shape_fbge {a disp22} (S : Shape (.fbge a disp22) R P) (h : R s) : Yields (exec (.fbge a disp22) s) P := by
  rw [exec_fbge, execFbge]; exact S.bfcc h

theorem shape_fbuge {a disp22} (S : Shape (.fbuge a disp22) R P) (h : R s) : Yields (exec (.fbuge a disp22) s) P := by
  rw [exec_fbuge, execFbuge]; exact S.bfcc h

theorem shape_fble {a disp22} (S : Shape (.fble a disp22) R P) (h : R s) : Yields (exec (.fble a disp22) s) P := by
  rw [exec_fble, execFble]; exact S.bfcc h

theorem shape_fbule {a disp22} (S : Shape (.fbule a disp22) R P) (h : R s) : Yields (exec (.fbule a disp22) s) P := by
  rw [exec_fbule, execFbule]; exact S.bfcc h

theorem shape_fbo {a disp22} (S : Shape (.fbo a disp22) R P) (h : R s) : Yields (exec (.fbo a disp22) s) P := by
  rw [exec_fbo, execFbo]; exact S.bfcc h

theorem shape_cbn {a disp22} (S : Shape (.cbn a disp22) R P) (h : R s) : Yields (exec (.cbn a disp22) s) P := by
  rw [exec_cbn, execCbn]; exact S.bccc h

theorem shape_cb123 {a disp22} (S : Shape (.cb123 a disp22) R P) (h : R s) : Yields (exec (.cb123 a disp22) s) P := by
  rw [exec_cb123, execCb123]; exact S.bccc h

theorem shape_cb12 {a disp22} (S : Shape (.cb12 a disp22) R P) (h : R s) : Yields (exec (.cb12 a disp22) s) P := by
  rw [exec_cb12, execCb12]; exact S.bccc h

theorem shape_cb13 {a disp22} (S : Shape (.cb13 a disp22) R P) (h : R s) : Yields (exec (.cb13 a disp22) s) P := by
  rw [exec_cb13, execCb13]; exact S.bccc h

theorem shape_cb1 {a disp22} (S : Shape (.cb1 a disp22) R P) (h : R s) : Yields (exec (.cb1 a disp22) s) P := by
  rw [exec_cb1, execCb1]; exact S.bccc h

theorem shape_cb23 {a disp22} (S : Shape (.cb23 a disp22) R P) (h : R s) : Yields (exec (.cb23 a disp22) s) P := by
  rw [exec_cb23, execCb23]; exact S.bccc h

theorem shape_cb2 {a disp22} (S : Shape (.cb2 a disp22) R P) (h : R s) : Yields (exec (.cb2 a disp22) s) P := by
  rw [exec_cb2, execCb2]; exact S.bccc h

theorem shape_cb3 {a disp22} (S : Shape (.cb3 a disp22) R P) (h : R s) : Yields (exec (.cb3 a disp22) s) P := by
  rw [exec_cb3, execCb3]; exact S.bccc h

theorem shape_cba {a disp22} (S : Shape (.cba a disp22) R P) (h : R s) : Yields (exec (.cba a disp22) s) P := by
  rw [exec_cba, execCba]; exact S.bccc h

theorem shape_cb0 {a disp22} (S : Shape (.cb0 a disp22) R P) (h : R s) : Yields (exec (.cb0 a disp22) s) P := by
  rw [exec_cb0, execCb0]; exact S.bccc h

theorem shape_cb03 {a disp22} (S : Shape (.cb03 a disp22) R P) (h : R s) : Yields (exec (.cb03 a disp22) s) P := by
  rw [exec_cb03, execCb03]; exact S.bccc h

theorem shape_cb02 {a disp22} (S : Shape (.cb02 a disp22) R P) (h : R s) : Yields (exec (.cb02 a disp22) s) P := by
  rw [exec_cb02, execCb02]; exact S.bccc h

theorem shape_cb023 {a disp22} (S : Shape (.cb023 a disp22) R P) (h : R s) : Yields (exec (.cb023 a disp22) s) P := by
  rw [exec_cb023, execCb023]; exact S.bccc h

theorem shape_cb01 {a disp22} (S : Shape (.cb01 a disp22) R P) (h : R s) : Yields (exec (.cb01 a disp22) s) P := by
  rw [exec_cb01, execCb01]; exact S.bccc h

theorem shape_cb013 {a disp22} (S : Shape (.cb013 a disp22) R P) (h : R s) : Yields (exec (.cb013 a disp22) s) P := by
  rw [exec_cb013, execCb013]; exact S.bccc h

theorem shape_cb012 {a disp22} (S : Shape (.cb012 a disp22) R P) (h : R s) : Yields (exec (.cb012 a disp22) s) P := by
  rw [exec_cb012, execCb012]; exact S.bccc h

theorem shape_call {disp30} (S : Shape (.call disp30) R P) (h : R s) : Yields (exec (.call disp30) s) P := by
  rw [exec_call]; exact S.callTo h

theorem shape_add {rd rs1 op2} (S : Shape (.add rd rs1 op2) R P) (h : R s) : Yields (exec (.add rd rs1 op2) s) P := by
  rw [exec_add, execAdd]; exact S.write1 h

theorem shape_and {rd rs1 op2} (S : Shape (.and rd rs1 op2) R P) (h : R s) : Yields (exec (.and rd rs1 op2) s) P := by
  rw [exec_and, execAnd]; exact S.write1 h

theorem shape_or {rd rs1 op2} (S : Shape (.or rd rs1 op2) R P) (h : R s) : Yields (exec (.or rd rs1 op2) s) P := by
  rw [exec_or, execOr]; exact S.write1 h

theorem shape_xor {rd rs1 op2} (S : Shape (.xor rd rs1 op2) R P) (h : R s) : Yields (exec (.xor rd rs1 op2) s) P := by
  rw [exec_xor, execXor]; exact S.write1 h

theorem shape_sub {rd rs1 op2} (S : Shape (.sub rd rs1 op2) R P) (h : R s) : Yields (exec (.sub rd rs1 op2) s) P := by
  rw [exec_sub, execSub]; exact S.write1 h

theorem shape_andn {rd rs1 op2} (S : Shape (.andn rd rs1 op2) R P) (h : R s) : Yields (exec (.andn rd rs1 op2) s) P := by
  rw [exec_andn, execAndn]; exact S.write1 h

theorem shape_orn {rd rs1 op2} (S : Shape (.orn rd rs1 op2) R P) (h : R s) : Yields (exec (.orn rd rs1 op2) s) P := by
  rw [exec_orn, execOrn]; exact S.write1 h

theorem shape_xnor {rd rs1 op2} (S : Shape (.xnor rd rs1 op2) R P) (h : R s) : Yields (exec (.xnor rd rs1 op2) s) P := by
  rw [exec_xnor, execXnor]; exact S.write1 h

theorem shape_addx {rd rs1 op2} (S : Shape (.addx rd rs1 op2) R P) (h : R s) : Yields (exec (.addx rd rs1 op2) s) P := by
  rw [exec_addx, execAddx]; exact S.write1 h

theorem shape_subx {rd rs1 op2} (S : Shape (.subx rd rs1 op2) R P) (h : R s) : Yields (exec (.subx rd rs1 op2) s) P := by
  rw [exec_subx, execSubx]; exact S.write1 h

theorem shape_addcc {rd rs1 op2} (S : Shape (.addcc rd rs1 op2) R P) (h : R s) : Yields (exec (.addcc rd rs1 op2) s) P := by
  rw [exec_addcc, execAddcc]; exact S.arithCc h

theorem shape_andcc {rd rs1 op2} (S : Shape (.andcc rd rs1 op2) R P) (h : R s) : Yields (exec (.andcc rd rs1 op2) s) P := by
  rw [exec_andcc, execAndcc]; exact S.logicCc h

theorem shape_orcc {rd rs1 op2} (S : Shape (.orcc rd rs1 op2) R P) (h : R s) : Yields (exec (.orcc rd rs1 op2) s) P := by
  rw [exec_orcc, execOrcc]; exact S.logicCc h

theorem shape_xorcc {rd rs1 op2} (S : Shape (.xorcc rd rs1 op2) R P) (h : R s) : Yields (exec (.xorcc rd rs1 op2) s) P := by
  rw [exec_xorcc, execXorcc]; exact S.logicCc h

theorem shape_subcc {rd rs1 op2} (S : Shape (.subcc rd rs1 op2) R P) (h : R s) : Yields (exec (.subcc rd rs1 op2) s) P := by
  rw [exec_subcc, execSubcc]; exact S.arithCc h

theorem shape_andncc {rd rs1 op2} (S : Shape (.andncc rd rs1 op2) R P) (h : R s) : Yields (exec (.andncc rd rs1 op2) s) P := by
  rw [exec_andncc, execAndncc]; exact S.logicCc h

theorem shape_orncc {rd rs1 op2} (S : Shape (.orncc rd rs1 op2) R P) (h : R s) : Yields (exec (.orncc rd rs1 op2) s) P := by
  rw [exec_orncc, execOrncc]; exact S.logicCc h

theorem shape_xnorcc {rd rs1 op2} (S : Shape (.xnorcc rd rs1 op2) R P) (h : R s) : Yields (exec (.xnorcc rd rs1 op2) s) P := by
  rw [exec_xnorcc, execXnorcc]; exact S.logicCc h

theorem shape_addxcc {rd rs1 op2} (S : Shape (.addxcc rd rs1 op2) R P) (h : R s) : Yields (exec (.addxcc rd rs1 op2) s) P := by
  rw [exec_addxcc, execAddxcc]; exact S.arithCc h

theorem shape_subxcc {rd rs1 op2} (S : Shape (.subxcc rd rs1 op2) R P) (h : R s) : Yields (exec (.subxcc rd rs1 op2) s) P := by
  rw [exec_subxcc, execSubxcc]; exact S.arithCc h

theorem shape_taddcc {rd rs1 op2} (S : Shape (.taddcc rd rs1 op2) R P) (h : R s) : Yields (exec (.taddcc rd rs1 op2) s) P := by
  rw [exec_taddcc, execTaddcc]; exact S.arithCc h

theorem shape_tsubcc {rd rs1 op2} (S : Shape (.tsubcc rd rs1 op2) R P) (h : R s) : Yields (exec (.tsubcc rd rs1 op2) s) P := by
  rw [exec_tsubcc, execTsubcc]; exact S.arithCc h

theorem shape_taddcctv {rd rs1 op2} (S : Shape (.taddcctv rd rs1 op2) R P) (h : R s) : Yields (exec (.taddcctv rd rs1 op2) s) P := by
  rw [exec_taddcctv, execTaddcctv]; exact S.taggedTv h

theorem shape_tsubcctv {rd rs1 op2} (S : Shape (.tsubcctv rd rs1 op2) R P) (h : R s) : Yields (exec (.tsubcctv rd rs1 op2) s) P := by
  rw [exec_tsubcctv, execTsubcctv]; exact S.taggedTv h

theorem shape_mulscc {rd rs1 op2} (S : Shape (.mulscc rd rs1 op2) R P) (h : R s) : Yields (exec (.mulscc rd rs1 op2) s) P := by
  rw [exec_mulscc, execMulscc]; exact yields_complete (S.multiply _ _ _ (S.writeReg _ _ _ h))

theorem shape_sll {rd rs1 cnt} (S : Shape (.sll rd rs1 cnt) R P) (h : R s) : Yields (exec (.sll rd rs1 cnt) s) P := by
  rw [exec_sll, execSll]; exact S.write1 h

theorem shape_srl {rd rs1 cnt} (S : Shape (.srl rd rs1 cnt) R P) (h : R s) : Yields (exec (.srl rd rs1 cnt) s) P := by
  rw [exec_srl, execSrl]; exact S.write1 h

theorem shape_sra {rd rs1 cnt} (S : Shape (.sra rd rs1 cnt) R P) (h : R s) : Yields (exec (.sra rd rs1 cnt) s) P := by
  rw [exec_sra, execSra]; exact S.write1 h

theorem shape_rdy {rd} (S : Shape (.rdy rd) R P) (h : R s) : Yields (exec (.rdy rd) s) P := by
  rw [exec_rdy, execRdy]; exact S.write1 h

theorem shape_rdpsr {rd} (S : Shape (.rdpsr rd) R P) (h : R s) : Yields (exec (.rdpsr rd) s) P := by
  rw [exec_rdpsr, execRdpsr]; exact S.supervisor h rfl fun _ => S.write1 h

theorem shape_rdwim {rd} (S : Shape (.rdwim rd) R P) (h : R s) : Yields (exec (.rdwim rd) s) P := by
  rw [exec_rdwim, execRdwim]; exact S.supervisor h rfl fun _ => S.write1 h

theorem shape_rdtbr {rd} (S : Shape (.rdtbr rd) R P) (h : R s) : Yields (exec (.rdtbr rd) s) P := by
  rw [exec_rdtbr, execRdtbr]; exact S.supervisor h rfl fun _ => S.write1 h

theorem shape_wry {rs1 op2} (S : Shape (.wry rs1 op2) R P) (h : R s) : Yields (exec (.wry rs1 op2) s) P := by
  rw [exec_wry, execWry]; exact yields_complete (S.wry _ _ h)

theorem shape_wrpsr {rs1 op2} (S : Shape (.wrpsr rs1 op2) R P) (h : R s) : Yields (exec (.wrpsr rs1 op2) s) P := by
  rw [exec_wrpsr]; exact S.wrpsrTo h rfl

theorem shape_wrwim {rs1 op2} (S : Shape (.wrwim rs1 op2) R P) (h : R s) : Yields (exec (.wrwim rs1 op2) s) P := by
  rw [exec_wrwim, execWrwim]; exact S.supervisor h rfl fun hs => yields_complete (S.wrwim _ _ h hs)

theorem shape_wrtbr {rs1 op2} (S : Shape (.wrtbr rs1 op2) R P) (h : R s) : Yields (exec (.wrtbr rs1 op2) s) P := by
  rw [exec_wrtbr, execWrtbr]; exact S.supervisor h rfl fun hs => yields_complete (S.wrtbr _ _ h hs)

theorem shape_fpop1 {rd rs1 opf rs2} (S : Shape (.fpop1 rd rs1 opf rs2) R P) (h : R s) : Yields (exec (.fpop1 rd rs1 opf rs2) s) P := by
  rw [exec_fpop1, execFpop1]; exact S.operate h

theorem shape_fmovs {rd rs1 rs2} (S : Shape (.fmovs rd rs1 rs2) R P) (h : R s) : Yields (exec (.fmovs rd rs1 rs2) s) P := by
  rw [exec_fmovs, execFmovs]; exact S.operate h

theorem shape_fnegs {rd rs1 rs2} (S : Shape (.fnegs rd rs1 rs2) R P) (h : R s) : Yields (exec (.fnegs rd rs1 rs2) s) P := by
  rw [exec_fnegs, execFnegs]; exact S.operate h

theorem shape_fabss {rd rs1 rs2} (S : Shape (.fabss rd rs1 rs2) R P) (h : R s) : Yields (exec (.fabss rd rs1 rs2) s) P := by
  rw [exec_fabss, execFabss]; exact S.operate h

theorem shape_fsqrts {rd rs1 rs2} (S : Shape (.fsqrts rd rs1 rs2) R P) (h : R s) : Yields (exec (.fsqrts rd rs1 rs2) s) P := by
  rw [exec_fsqrts, execFsqrts]; exact S.operate h

theorem shape_fsqrtd {rd rs1 rs2} (S : Shape (.fsqrtd rd rs1 rs2) R P) (h : R s) : Yields (exec (.fsqrtd rd rs1 rs2) s) P := by
  rw [exec_fsqrtd, execFsqrtd]; exact S.operate h

theorem shape_fsqrtx {rd rs1 rs2} (S : Shape (.fsqrtx rd rs1 rs2) R P) (h : R s) : Yields (exec (.fsqrtx rd rs1 rs2) s) P := by
  rw [exec_fsqrtx, execFsqrtx]; exact S.operate h

theorem shape_fadds {rd rs1 rs2} (S : Shape (.fadds rd rs1 rs2) R P) (h : R s) : Yields (exec (.fadds rd rs1 rs2) s) P := by
  rw [exec_fadds, execFadds]; exact S.operate h

theorem shape_faddd {rd rs1 rs2} (S : Shape (.faddd rd rs1 rs2) R P) (h : R s) : Yields (exec (.faddd rd rs1 rs2) s) P := by
  rw [exec_faddd, execFaddd]; exact S.operate h

theorem shape_faddx {rd rs1 rs2} (S : Shape (.faddx rd rs1 rs2) R P) (h : R s) : Yields (exec (.faddx rd rs1 rs2) s) P := by
  rw [exec_faddx, execFaddx]; exact S.operate h

theorem shape_fsubs {rd rs1 rs2} (S : Shape (.fsubs rd rs1 rs2) R P) (h : R s) : Yields (exec (.fsubs rd rs1 rs2) s) P := by
  rw [exec_fsubs, execFsubs]; exact S.operate h

theorem shape_fsubd {rd rs1 rs2} (S : Shape (.fsubd rd rs1 rs2) R P) (h : R s) : Yields (exec (.fsubd rd rs1 rs2) s) P := by
  rw [exec_fsubd, execFsubd]; exact S.operate h

theorem shape_fsubx {rd rs1 rs2} (S : Shape (.fsubx rd rs1 rs2) R P) (h : R s) : Yields (exec (.fsubx rd rs1 rs2) s) P := by
  rw [exec_fsubx, execFsubx]; exact S.operate h

theorem shape_fmuls {rd rs1 rs2} (S : Shape (.fmuls rd rs1 rs2) R P) (h : R s) : Yields (exec (.fmuls rd rs1 rs2) s) P := by
  rw [exec_fmuls, execFmuls]; exact S.operate h

theorem shape_fmuld {rd rs1 rs2} (S : Shape (.fmuld rd rs1 rs2) R P) (h : R s) : Yields (exec (.fmuld rd rs1 rs2) s) P := by
  rw [exec_fmuld, execFmuld]; exact S.operate h

theorem shape_fmulx {rd rs1 rs2} (S : Shape (.fmulx rd rs1 rs2) R P) (h : R s) : Yields (exec (.fmulx rd rs1 rs2) s) P := by
  rw [exec_fmulx, execFmulx]; exact S.operate h

theorem shape_fdivs {rd rs1 rs2} (S : Shape (.fdivs rd rs1 rs2) R P) (h : R s) : Yields (exec (.fdivs rd rs1 rs2) s) P := by
  rw [exec_fdivs, execFdivs]; exact S.operate h

theorem shape_fdivd {rd rs1 rs2} (S : Shape (.fdivd rd rs1 rs2) R P) (h : R s) : Yields (exec (.fdivd rd rs1 rs2) s) P := by
  rw [exec_fdivd, execFdivd]; exact S.operate h

theorem shape_fdivx {rd rs1 rs2} (S : Shape (.fdivx rd rs1 rs2) R P) (h : R s) : Yields (exec (.fdivx rd rs1 rs2) s) P := by
  rw [exec_fdivx, execFdivx]; exact S.operate h

theorem shape_fitos {rd rs1 rs2} (S : Shape (.fitos rd rs1 rs2) R P) (h : R s) : Yields (exec (.fitos rd rs1 rs2) s) P := by
  rw [exec_fitos, execFitos]; exact S.operate h

theorem shape_fdtos {rd rs1 rs2} (S : Shape (.fdtos rd rs1 rs2) R P) (h : R s) : Yields (exec (.fdtos rd rs1 rs2) s) P := by
  rw [exec_fdtos, execFdtos]; exact S.operate h

theorem shape_fxtos {rd rs1 rs2} (S : Shape (.fxtos rd rs1 rs2) R P) (h : R s) : Yields (exec (.fxtos rd rs1 rs2) s) P := by
  rw [exec_fxtos, execFxtos]; exact S.operate h

theorem shape_fitod {rd rs1 rs2} (S : Shape (.fitod rd rs1 rs2) R P) (h : R s) : Yields (exec (.fitod rd rs1 rs2) s) P := by
  rw [exec_fitod, execFitod]; exact S.operate h

theorem shape_fstod {rd rs1 rs2} (S : Shape (.fstod rd rs1 rs2) R P) (h : R s) : Yields (exec (.fstod rd rs1 rs2) s) P := by
  rw [exec_fstod, execFstod]; exact S.operate h

theorem shape_fxtod {rd rs1 rs2} (S : Shape (.fxtod rd rs1 rs2) R P) (h : R s) : Yields (exec (.fxtod rd rs1 rs2) s) P := by
  rw [exec_fxtod, execFxtod]; exact S.operate h

theorem shape_fitox {rd rs1 rs2} (S : Shape (.fitox rd rs1 rs2) R P) (h : R s) : Yields (exec (.fitox rd rs1 rs2) s) P := by
  rw [exec_fitox, execFitox]; exact S.operate h

theorem shape_fstox {rd rs1 rs2} (S : Shape (.fstox rd rs1 rs2) R P) (h : R s) : Yields (exec (.fstox rd rs1 rs2) s) P := by
  rw [exec_fstox, execFstox]; exact S.operate h

theorem shape_fdtox {rd rs1 rs2} (S : Shape (.fdtox rd rs1 rs2) R P) (h : R s) : Yields (exec (.fdtox rd rs1 rs2) s) P := by
  rw [exec_fdtox, execFdtox]; exact S.operate h

theorem shape_fstoi {rd rs1 rs2} (S : Shape (.fstoi rd rs1 rs2) R P) (h : R s) : Yields (exec (.fstoi rd rs1 rs2) s) P := by
  rw [exec_fstoi, execFstoi]; exact S.operate h

theorem shape_fdtoi {rd rs1 rs2} (S : Shape (.fdtoi rd rs1 rs2) R P) (h : R s) : Yields (exec (.fdtoi rd rs1 rs2) s) P := by
  rw [exec_fdtoi, execFdtoi]; exact S.operate h

theorem shape_fxtoi {rd rs1 rs2} (S : Shape (.fxtoi rd rs1 rs2) R P) (h : R s) : Yields (exec (.fxtoi rd rs1 rs2) s) P := by
  rw [exec_fxtoi, execFxtoi]; exact S.operate h

theorem shape_fpop2 {rd rs1 opf rs2} (S : Shape (.fpop2 rd rs1 opf rs2) R P) (h : R s) : Yields (exec (.fpop2 rd rs1 opf rs2) s) P := by
  rw [exec_fpop2, execFpop2]; exact S.operate h

theorem shape_fcmps {rd rs1 rs2} (S : Shape (.fcmps rd rs1 rs2) R P) (h : R s) : Yields (exec (.fcmps rd rs1 rs2) s) P := by
  rw [exec_fcmps, execFcmps]; exact S.operate h

theorem shape_fcmpd {rd rs1 rs2} (S : Shape (.fcmpd rd rs1 rs2) R P) (h : R s) : Yields (exec (.fcmpd rd rs1 rs2) s) P := by
  rw [exec_fcmpd, execFcmpd]; exact S.operate h

theorem shape_fcmpx {rd rs1 rs2} (S : Shape (.fcmpx rd rs1 rs2) R P) (h : R s) : Yields (exec (.fcmpx rd rs1 rs2) s) P := by
  rw [exec_fcmpx, execFcmpx]; exact S.operate h

theorem shape_fcmpes {rd rs1 rs2} (S : Shape (.fcmpes rd rs1 rs2) R P) (h : R s) : Yields (exec (.fcmpes rd rs1 rs2) s) P := by
  rw [exec_fcmpes, execFcmpes]; exact S.operate h

theorem shape_fcmped {rd rs1 rs2} (S : Shape (.fcmped rd rs1 rs2) R P) (h : R s) : Yields (exec (.fcmped rd rs1 rs2) s) P := by
  rw [exec_fcmped, execFcmped]; exact S.operate h

theorem shape_fcmpex {rd rs1 rs2} (S : Shape (.fcmpex rd rs1 rs2) R P) (h : R s) : Yields (exec (.fcmpex rd rs1 rs2) s) P := by
  rw [exec_fcmpex, execFcmpex]; exact S.operate h

theorem shape_cpop1 {rd rs1 opc rs2} (S : Shape (.cpop1 rd rs1 opc rs2) R P) (h : R s) : Yields (exec (.cpop1 rd rs1 opc rs2) s) P := by
  rw [exec_cpop1, execCpop1]; exact S.operate h

theorem shape_cpop2 {rd rs1 opc rs2} (S : Shape (.cpop2 rd rs1 opc rs2) R P) (h : R s) : Yields (exec (.cpop2 rd rs1 opc rs2) s) P := by
  rw [exec_cpop2, execCpop2]; exact S.operate h

theorem shape_jmpl {rd rs1 op2} (S : Shape (.jmpl rd rs1 op2) R P) (h : R s) : Yields (exec (.jmpl rd rs1 op2) s) P := by
  rw [exec_jmpl]; exact S.jmpl h

theorem shape_rett {rs1 op2} (S : Shape (.rett rs1 op2) R P) (h : R s) : Yields (exec (.rett rs1 op2) s) P := by
  rw [exec_rett]; exact S.rett h rfl

theorem shape_tn {rs1 op2} (S : Shape (.tn rs1 op2) R P) (h : R s) : Yields (exec (.tn rs1 op2) s) P := by
  rw [exec_tn, execTn]; exact S.ticc h

theorem shape_te {rs1 op2} (S : Shape (.te rs1 op2) R P) (h : R s) : Yields (exec (.te rs1 op2) s) P := by
  rw [exec_te, execTe]; exact S.ticc h

theorem shape_tle {rs1 op2} (S : Shape (.tle rs1 op2) R P) (h : R s) : Yields (exec (.tle rs1 op2) s) P := by
  rw [exec_tle, execTle]; exact S.ticc h

theorem shape_tl {rs1 op2} (S : Shape (.tl rs1 op2) R P) (h : R s) : Yields (exec (.tl rs1 op2) s) P := by
  rw [exec_tl, execTl]; exact S.ticc h

theorem shape_tleu {rs1 op2} (S : Shape (.tleu rs1 op2) R P) (h : R s) : Yields (exec (.tleu rs1 op2) s) P := by
  rw [exec_tleu, execTleu]; exact S.ticc h

theorem shape_tcs {rs1 op2} (S : Shape (.tcs rs1 op2) R P) (h : R s) : Yields (exec (.tcs rs1 op2) s) P := by
  rw [exec_tcs, execTcs]; exact S.ticc h

theorem shape_tneg {rs1 op2} (S : Shape (.tneg rs1 op2) R P) (h : R s) : Yields (exec (.tneg rs1 op2) s) P := by
  rw [exec_tneg, execTneg]; exact S.ticc h

theorem shape_tvs {rs1 op2} (S : Shape (.tvs rs1 op2) R P) (h : R s) : Yields (exec (.tvs rs1 op2) s) P := by
  rw [exec_tvs, execTvs]; exact S.ticc h

theorem shape_ta {rs1 op2} (S : Shape (.ta rs1 op2) R P) (h : R s) : Yields (exec (.ta rs1 op2) s) P := by
  rw [exec_ta, execTa]; exact S.ticc h

theorem shape_tne {rs1 op2} (S : Shape (.tne rs1 op2) R P) (h : R s) : Yields (exec (.tne rs1 op2) s) P := by
  rw [exec_tne, execTne]; exact S.ticc h

theorem shape_tg {rs1 op2} (S : Shape (.tg rs1 op2) R P) (h : R s) : Yields (exec (.tg rs1 op2) s) P := by
  rw [exec_tg, execTg]; exact S.ticc h

theorem shape_tge {rs1 op2} (S : Shape (.tge rs1 op2) R P) (h : R s) : Yields (exec (.tge rs1 op2) s) P := by
  rw [exec_tge, execTge]; exact S.ticc h

theorem shape_tgu {rs1 op2} (S : Shape (.tgu rs1 op2) R P) (h : R s) : Yields (exec (.tgu rs1 op2) s) P := by
  rw [exec_tgu, execTgu]; exact S.ticc h

theorem shape_tcc {rs1 op2} (S : Shape (.tcc rs1 op2) R P) (h : R s) : Yields (exec (.tcc rs1 op2) s) P := by
  rw [exec_tcc, execTcc]; exact S.ticc h

theorem shape_tpos {rs1 op2} (S : Shape (.tpos rs1 op2) R P) (h : R s) : Yields (exec (.tpos rs1 op2) s) P := by
  rw [exec_tpos, execTpos]; exact S.ticc h

theorem shape_tvc {rs1 op2} (S : Shape (.tvc rs1 op2) R P) (h : R s) : Yields (exec (.tvc rs1 op2) s) P := by
  rw [exec_tvc, execTvc]; exact S.ticc h

theorem shape_iflush {rs1 op2} (S : Shape (.iflush rs1 op2) R P) (h : R s) : Yields (exec (.iflush rs1 op2) s) P := by
  rw [exec_iflush]; exact S.iflush h

theorem shape_save {rd rs1 op2} (S : Shape (.save rd rs1 op2) R P) (h : R s) : Yields (exec (.save rd rs1 op2) s) P := by
  rw [exec_save, execSave]; exact S.enterWindow h (.inl rfl) (.inl rfl)

theorem shape_restore {rd rs1 op2} (S : Shape (.restore rd rs1 op2) R P) (h : R s) : Yields (exec (.restore rd rs1 op2) s) P := by
  rw [exec_restore, execRestore]; exact S.enterWindow h (.inr rfl) (.inr rfl)

theorem shape_ld {rd rs1 op2} (S : Shape (.ld rd rs1 op2) R P) (h : R s) : Yields (exec (.ld rd rs1 op2) s) P := by
  rw [exec_ld, execLd]; exact S.loadWord h

theorem shape_ldub {rd rs1 op2} (S : Shape (.ldub rd rs1 op2) R P) (h : R s) : Yields (exec (.ldub rd rs1 op2) s) P := by
  rw [exec_ldub, execLdub]; exact S.loadByte h

theorem shape_lduh {rd rs1 op2} (S : Shape (.lduh rd rs1 op2) R P) (h : R s) : Yields (exec (.lduh rd rs1 op2) s) P := by
  rw [exec_lduh, execLduh]; exact S.loadHalf h

theorem shape_ldd {rd rs1 op2} (S : Shape (.ldd rd rs1 op2) R P) (h : R s) : Yields (exec (.ldd rd rs1 op2) s) P := by
  rw [exec_ldd, execLdd]; exact S.loadDouble h

theorem shape_st {rd rs1 op2} (S : Shape (.st rd rs1 op2) R P) (h : R s) : Yields (exec (.st rd rs1 op2) s) P := by
  rw [exec_st, execSt]; exact S.storeWord h

theorem shape_stb {rd rs1 op2} (S : Shape (.stb rd rs1 op2) R P) (h : R s) : Yields (exec (.stb rd rs1 op2) s) P := by
  rw [exec_stb, execStb]; exact S.storeByte h

theorem shape_sth {rd rs1 op2} (S : Shape (.sth rd rs1 op2) R P) (h : R s) : Yields (exec (.sth rd rs1 op2) s) P := by
  rw [exec_sth, execSth]; exact S.storeHalf h

theorem shape_std {rd rs1 op2} (S : Shape (.std rd rs1 op2) R P) (h : R s) : Yields (exec (.std rd rs1 op2) s) P := by
  rw [exec_std, execStd]; exact S.storeDouble h

theorem shape_ldsb {rd rs1 op2} (S : Shape (.ldsb rd rs1 op2) R P) (h : R s) : Yields (exec (.ldsb rd rs1 op2) s) P := by
  rw [exec_ldsb, execLdsb]; exact S.loadByte h

theorem shape_ldsh {rd rs1 op2} (S : Shape (.ldsh rd rs1 op2) R P) (h : R s) : Yields (exec (.ldsh rd rs1 op2) s) P := by
  rw [exec_ldsh, execLdsh]; exact S.loadHalf h

theorem shape_ldstub {rd rs1 op2} (S : Shape (.ldstub rd rs1 op2) R P) (h : R s) : Yields (exec (.ldstub rd rs1 op2) s) P := by
  rw [exec_ldstub, execLdstub]; exact S.exchange h

theorem shape_swap {rd rs1 op2} (S : Shape (.swap rd rs1 op2) R P) (h : R s) : Yields (exec (.swap rd rs1 op2) s) P := by
  rw [exec_swap, execSwap]; exact S.swapWord h

theorem shape_lda {rd rs1 asi rs2} (S : Shape (.lda rd rs1 asi rs2) R P) (h : R s) : Yields (exec (.lda rd rs1 asi rs2) s) P := by
  rw [exec_lda, execLda]; exact S.supervisor h rfl fun _ => S.loadWord h

theorem shape_lduba {rd rs1 asi rs2} (S : Shape (.lduba rd rs1 asi rs2) R P) (h : R s) : Yields (exec (.lduba rd rs1 asi rs2) s) P := by
  rw [exec_lduba, execLduba]; exact S.supervisor h rfl fun _ => S.loadByte h

theorem shape_lduha {rd rs1 asi rs2} (S : Shape (.lduha rd rs1 asi rs2) R P) (h : R s) : Yields (exec (.lduha rd rs1 asi rs2) s) P := by
  rw [exec_lduha, execLduha]; exact S.supervisor h rfl fun _ => S.loadHalf h

theorem shape_ldda {rd rs1 asi rs2} (S : Shape (.ldda rd rs1 asi rs2) R P) (h : R s) : Yields (exec (.ldda rd rs1 asi rs2) s) P := by
  rw [exec_ldda, execLdda]; exact S.supervisor h rfl fun _ => S.loadDouble h

theorem shape_sta {rd rs1 asi rs2} (S : Shape (.sta rd rs1 asi rs2) R P) (h : R s) : Yields (exec (.sta rd rs1 asi rs2) s) P := by
  rw [exec_sta, execSta]; exact S.supervisor h rfl fun _ => S.storeWord h

theorem shape_stba {rd rs1 asi rs2} (S : Shape (.stba rd rs1 asi rs2) R P) (h : R s) : Yields (exec (.stba rd rs1 asi rs2) s) P := by
  rw [exec_stba, execStba]; exact S.supervisor h rfl fun _ => S.storeByte h

theorem shape_stha {rd rs1 asi rs2} (S : Shape (.stha rd rs1 asi rs2) R P) (h : R s) : Yields (exec (.stha rd rs1 asi rs2) s) P := by
  rw [exec_stha, execStha]; exact S.supervisor h rfl fun _ => S.storeHalf h

theorem shape_stda {rd rs1 asi rs2} (S : Shape (.stda rd rs1 asi rs2) R P) (h : R s) : Yields (exec (.stda rd rs1 asi rs2) s) P := by
  rw [exec_stda, execStda]; exact S.supervisor h rfl fun _ => S.storeDouble h

theorem shape_ldsba {rd rs1 asi rs2} (S : Shape (.ldsba rd rs1 asi rs2) R P) (h : R s) : Yields (exec (.ldsba rd rs1 asi rs2) s) P := by
  rw [exec_ldsba, execLdsba]; exact S.supervisor h rfl fun _ => S.loadByte h

theorem shape_ldsha {rd rs1 asi rs2} (S : Shape (.ldsha rd rs1 asi rs2) R P) (h : R s) : Yields (exec (.ldsha rd rs1 asi rs2) s) P := by
  rw [exec_ldsha, execLdsha]; exact S.supervisor h rfl fun _ => S.loadHalf h

theorem shape_ldstuba {rd rs1 asi rs2} (S : Shape (.ldstuba rd rs1 asi rs2) R P) (h : R s) : Yields (exec (.ldstuba rd rs1 asi rs2) s) P := by
  rw [exec_ldstuba, execLdstuba]; exact S.supervisor h rfl fun _ => S.exchange h

theorem shape_swapa {rd rs1 asi rs2} (S : Shape (.swapa rd rs1 asi rs2) R P) (h : R s) : Yields (exec (.swapa rd rs1 asi rs2) s) P := by
  rw [exec_swapa, execSwapa]; exact S.supervisor h rfl fun _ => S.swapWord h

theorem shape_ldf {rd rs1 op2} (S : Shape (.ldf rd rs1 op2) R P) (h : R s) : Yields (exec (.ldf rd rs1 op2) s) P := by
  rw [exec_ldf, execLdf]; exact S.unitLoad h

theorem shape_ldfsr {rd rs1 op2} (S : Shape (.ldfsr rd rs1 op2) R P) (h : R s) : Yields (exec (.ldfsr rd rs1 op2) s) P := by
  rw [exec_ldfsr, execLdfsr]; exact S.unitLoadStatus h

theorem shape_lddf {rd rs1 op2} (S : Shape (.lddf rd rs1 op2) R P) (h : R s) : Yields (exec (.lddf rd rs1 op2) s) P := by
  rw [exec_lddf, execLddf]; exact S.unitLoadDouble h

theorem shape_stf {rd rs1 op2} (S : Shape (.stf rd rs1 op2) R P) (h : R s) : Yields (exec (.stf rd rs1 op2) s) P := by
  rw [exec_stf, execStf]; exact S.unitStoreWord h

theorem shape_stfsr {rd rs1 op2} (S : Shape (.stfsr rd rs1 op2) R P) (h : R s) : Yields (exec (.stfsr rd rs1 op2) s) P := by
  rw [exec_stfsr, execStfsr]; exact S.unitStoreWord h

theorem shape_stdfq {rd rs1 op2} (S : Shape (.stdfq rd rs1 op2) R P) (h : R s) : Yields (exec (.stdfq rd rs1 op2) s) P := by
  rw [exec_stdfq, execStdfq]; exact S.unitStoreQueue h rfl

theorem shape_stdf {rd rs1 op2} (S : Shape (.stdf rd rs1 op2) R P) (h : R s) : Yields (exec (.stdf rd rs1 op2) s) P := by
  rw [exec_stdf, execStdf]; exact S.unitStoreDouble h

theorem shape_ldc {rd rs1 op2} (S : Shape (.ldc rd rs1 op2) R P) (h : R s) : Yields (exec (.ldc rd rs1 op2) s) P := by
  rw [exec_ldc, execLdc]; exact S.unitLoad h

theorem shape_ldcsr {rd rs1 op2} (S : Shape (.ldcsr rd rs1 op2) R P) (h : R s) : Yields (exec (.ldcsr rd rs1 op2) s) P := by
  rw [exec_ldcsr, execLdcsr]; exact S.unitLoadStatus h

theorem shape_lddc {rd rs1 op2} (S : Shape (.lddc rd rs1 op2) R P) (h : R s) : Yields (exec (.lddc rd rs1 op2) s) P := by
  rw [exec_lddc, execLddc]; exact S.unitLoadDouble h

theorem shape_stc {rd rs1 op2} (S : Shape (.stc rd rs1 op2) R P) (h : R s) : Yields (exec (.stc rd rs1 op2) s) P := by
  rw [exec_stc, execStc]; exact S.unitStoreWord h

theorem shape_stcsr {rd rs1 op2} (S : Shape (.stcsr rd rs1 op2) R P) (h : R s) : Yields (exec (.stcsr rd rs1 op2) s) P := by
  rw [exec_stcsr, execStcsr]; exact S.unitStoreWord h

theorem shape_stdcq {rd rs1 op2} (S : Shape (.stdcq rd rs1 op2) R P) (h : R s) : Yields (exec (.stdcq rd rs1 op2) s) P := by
  rw [exec_stdcq, execStdcq]; exact S.unitStoreQueue h rfl

theorem shape_stdc {rd rs1 op2} (S : Shape (.stdc rd rs1 op2) R P) (h : R s) : Yields (exec (.stdc rd rs1 op2) s) P := by
  rw [exec_stdc, execStdc]; exact S.unitStoreDouble h

end

/-- Every instruction has the shape: from R it reaches P. -/
theorem exec_shape {i : Instr} {R P : State → Prop} {s : State} (S : Shape i R P) (h : R s) : Yields (exec i s) P := by
  cases i
  case unimp => exact shape_unimp S h
  case sethi => exact shape_sethi S h
  case bn => exact shape_bn S h
  case be => exact shape_be S h
  case ble => exact shape_ble S h
  case bl => exact shape_bl S h
  case bleu => exact shape_bleu S h
  case bcs => exact shape_bcs S h
  case bneg => exact shape_bneg S h
  case bvs => exact shape_bvs S h
  case ba => exact shape_ba S h
  case bne => exact shape_bne S h
  case bg => exact shape_bg S h
  case bge => exact shape_bge S h
  case bgu => exact shape_bgu S h
  case bcc => exact shape_bcc S h
  case bpos => exact shape_bpos S h
  case bvc => exact shape_bvc S h
  case fbn => exact shape_fbn S h
  case fbne => exact shape_fbne S h
  case fblg => exact shape_fblg S h
  case fbul => exact shape_fbul S h
  case fbl => exact shape_fbl S h
  case fbug => exact shape_fbug S h
  case fbg => exact shape_fbg S h
  case fbu => exact shape_fbu S h
  case fba => exact shape_fba S h
  case fbe => exact shape_fbe S h
  case fbue => exact shape_fbue S h
  case fbge => exact shape_fbge S h
  case fbuge => exact shape_fbuge S h
  case fble => exact shape_fble S h
  case fbule => exact shape_fbule S h
  case fbo => exact shape_fbo S h
  case cbn => exact shape_cbn S h
  case cb123 => exact shape_cb123 S h
  case cb12 => exact shape_cb12 S h
  case cb13 => exact shape_cb13 S h
  case cb1 => exact shape_cb1 S h
  case cb23 => exact shape_cb23 S h
  case cb2 => exact shape_cb2 S h
  case cb3 => exact shape_cb3 S h
  case cba => exact shape_cba S h
  case cb0 => exact shape_cb0 S h
  case cb03 => exact shape_cb03 S h
  case cb02 => exact shape_cb02 S h
  case cb023 => exact shape_cb023 S h
  case cb01 => exact shape_cb01 S h
  case cb013 => exact shape_cb013 S h
  case cb012 => exact shape_cb012 S h
  case call => exact shape_call S h
  case add => exact shape_add S h
  case and => exact shape_and S h
  case or => exact shape_or S h
  case xor => exact shape_xor S h
  case sub => exact shape_sub S h
  case andn => exact shape_andn S h
  case orn => exact shape_orn S h
  case xnor => exact shape_xnor S h
  case addx => exact shape_addx S h
  case subx => exact shape_subx S h
  case addcc => exact shape_addcc S h
  case andcc => exact shape_andcc S h
  case orcc => exact shape_orcc S h
  case xorcc => exact shape_xorcc S h
  case subcc => exact shape_subcc S h
  case andncc => exact shape_andncc S h
  case orncc => exact shape_orncc S h
  case xnorcc => exact shape_xnorcc S h
  case addxcc => exact shape_addxcc S h
  case subxcc => exact shape_subxcc S h
  case taddcc => exact shape_taddcc S h
  case tsubcc => exact shape_tsubcc S h
  case taddcctv => exact shape_taddcctv S h
  case tsubcctv => exact shape_tsubcctv S h
  case mulscc => exact shape_mulscc S h
  case sll => exact shape_sll S h
  case srl => exact shape_srl S h
  case sra => exact shape_sra S h
  case rdy => exact shape_rdy S h
  case rdpsr => exact shape_rdpsr S h
  case rdwim => exact shape_rdwim S h
  case rdtbr => exact shape_rdtbr S h
  case wry => exact shape_wry S h
  case wrpsr => exact shape_wrpsr S h
  case wrwim => exact shape_wrwim S h
  case wrtbr => exact shape_wrtbr S h
  case fpop1 => exact shape_fpop1 S h
  case fmovs => exact shape_fmovs S h
  case fnegs => exact shape_fnegs S h
  case fabss => exact shape_fabss S h
  case fsqrts => exact shape_fsqrts S h
  case fsqrtd => exact shape_fsqrtd S h
  case fsqrtx => exact shape_fsqrtx S h
  case fadds => exact shape_fadds S h
  case faddd => exact shape_faddd S h
  case faddx => exact shape_faddx S h
  case fsubs => exact shape_fsubs S h
  case fsubd => exact shape_fsubd S h
  case fsubx => exact shape_fsubx S h
  case fmuls => exact shape_fmuls S h
  case fmuld => exact shape_fmuld S h
  case fmulx => exact shape_fmulx S h
  case fdivs => exact shape_fdivs S h
  case fdivd => exact shape_fdivd S h
  case fdivx => exact shape_fdivx S h
  case fitos => exact shape_fitos S h
  case fdtos => exact shape_fdtos S h
  case fxtos => exact shape_fxtos S h
  case fitod => exact shape_fitod S h
  case fstod => exact shape_fstod S h
  case fxtod => exact shape_fxtod S h
  case fitox => exact shape_fitox S h
  case fstox => exact shape_fstox S h
  case fdtox => exact shape_fdtox S h
  case fstoi => exact shape_fstoi S h
  case fdtoi => exact shape_fdtoi S h
  case fxtoi => exact shape_fxtoi S h
  case fpop2 => exact shape_fpop2 S h
  case fcmps => exact shape_fcmps S h
  case fcmpd => exact shape_fcmpd S h
  case fcmpx => exact shape_fcmpx S h
  case fcmpes => exact shape_fcmpes S h
  case fcmped => exact shape_fcmped S h
  case fcmpex => exact shape_fcmpex S h
  case cpop1 => exact shape_cpop1 S h
  case cpop2 => exact shape_cpop2 S h
  case jmpl => exact shape_jmpl S h
  case rett => exact shape_rett S h
  case tn => exact shape_tn S h
  case te => exact shape_te S h
  case tle => exact shape_tle S h
  case tl => exact shape_tl S h
  case tleu => exact shape_tleu S h
  case tcs => exact shape_tcs S h
  case tneg => exact shape_tneg S h
  case tvs => exact shape_tvs S h
  case ta => exact shape_ta S h
  case tne => exact shape_tne S h
  case tg => exact shape_tg S h
  case tge => exact shape_tge S h
  case tgu => exact shape_tgu S h
  case tcc => exact shape_tcc S h
  case tpos => exact shape_tpos S h
  case tvc => exact shape_tvc S h
  case iflush => exact shape_iflush S h
  case save => exact shape_save S h
  case restore => exact shape_restore S h
  case ld => exact shape_ld S h
  case ldub => exact shape_ldub S h
  case lduh => exact shape_lduh S h
  case ldd => exact shape_ldd S h
  case st => exact shape_st S h
  case stb => exact shape_stb S h
  case sth => exact shape_sth S h
  case std => exact shape_std S h
  case ldsb => exact shape_ldsb S h
  case ldsh => exact shape_ldsh S h
  case ldstub => exact shape_ldstub S h
  case swap => exact shape_swap S h
  case lda => exact shape_lda S h
  case lduba => exact shape_lduba S h
  case lduha => exact shape_lduha S h
  case ldda => exact shape_ldda S h
  case sta => exact shape_sta S h
  case stba => exact shape_stba S h
  case stha => exact shape_stha S h
  case stda => exact shape_stda S h
  case ldsba => exact shape_ldsba S h
  case ldsha => exact shape_ldsha S h
  case ldstuba => exact shape_ldstuba S h
  case swapa => exact shape_swapa S h
  case ldf => exact shape_ldf S h
  case ldfsr => exact shape_ldfsr S h
  case lddf => exact shape_lddf S h
  case stf => exact shape_stf S h
  case stfsr => exact shape_stfsr S h
  case stdfq => exact shape_stdfq S h
  case stdf => exact shape_stdf S h
  case ldc => exact shape_ldc S h
  case ldcsr => exact shape_ldcsr S h
  case lddc => exact shape_lddc S h
  case stc => exact shape_stc S h
  case stcsr => exact shape_stcsr S h
  case stdcq => exact shape_stdcq S h
  case stdc => exact shape_stdc S h

end Sys2Proof.Machine
end

