-- ==== Sys2Proof/Laws/Step.lean ====
section
/-! SUPPORT. What a step is, case by case in the order of its events (rule R485). -/

namespace Sys2Proof.Machine

theorem step_halted {s : State} (h : s.inputs.halt = true) : step s = .next s := by
  rw [step, State.cycle, if_pos h]

/-- A machine that is not halted lives. -/
theorem step_live {s : State} (hh : s.inputs.halt = false) : step s = s.quiet.liveStep exec := by
  rw [step, State.cycle, if_neg (by simp [hh])]

theorem step_resetFault {s : State} (hh : s.inputs.halt = false) (hf : s.inputs.resetFault = true) :
    step s = .next s.quiet.enterErrorMode := by
  rw [step_live hh, State.liveStep, if_pos (show s.quiet.inputs.resetFault = true from hf)]

theorem step_reset {s : State} (hh : s.inputs.halt = false) (hf : s.inputs.resetFault = false)
    (hr : s.inputs.reset = true) : step s = .next s.quiet.enterReset := by
  rw [step_live hh, State.liveStep, if_neg (by simp [State.quiet, hf]), if_pos (show s.quiet.inputs.reset = true from hr)]

theorem step_leaveReset {s : State} (hh : s.inputs.halt = false) (hf : s.inputs.resetFault = false)
    (hr : s.inputs.reset = false) (hm : s.mode = .reset) : step s = .next s.quiet.leaveReset := by
  rw [step_live hh, State.liveStep, if_neg (by simp [State.quiet, hf]), if_neg (by simp [State.quiet, hr])]
  simp only [State.quiet, hm]

/-- No fetch is made before RESET is deasserted, and the first one after it is at 0 (rules R501, R533). -/
theorem first_fetch_after_reset (s : State) :
    s.quiet.enterReset.bus = [] ∧ s.quiet.leaveReset.bus = [] ∧ s.quiet.leaveReset.fetchRequest.addr = 0#32 :=
  ⟨rfl, rfl, rfl⟩

/-- In error mode only RESET does anything; an error of the RESET pin leads where the machine is (rules R431, R432). -/
theorem step_errorMode {s : State} (hh : s.inputs.halt = false) (hr : s.inputs.reset = false) (hm : s.mode = .error) :
    step s = .next s.quiet := by
  rw [step_live hh, State.liveStep]
  split
  · have : s.quiet.enterErrorMode = s.quiet := by
      show ({ s.quiet with mode := .error } : State) = s.quiet
      rw [← show s.quiet.mode = .error from hm]
    rw [this]
  · rw [if_neg (by simp [State.quiet, hr])]
    simp only [State.quiet, hm]

/-- A running machine goes through the events of a boundary. -/
theorem step_running {s : State} (h : s.Running) : step s = s.quiet.boundaryStep exec := by
  rw [step_live h.halt, State.liveStep, if_neg (by simp [State.quiet, h.resetFault]), if_neg (by simp [State.quiet, h.reset])]
  have ha : Size.word.aligned s.quiet.pc = true := (aligned_word_iff _).mpr h.pc
  simp only [show s.quiet.mode = .execute from h.mode, ha, if_true]

theorem step_annulled {s : State} (h : s.Running) (ha : s.annul = true) : step s = .next s.quiet.annulStep := by
  rw [step_running h, State.boundaryStep, if_pos (show s.quiet.annul = true from ha)]

theorem step_hwError {s : State} (h : s.Running) (ha : s.annul = false) {e : HwError} (he : s.hwError = some e) :
    step s = .next (s.quiet.eventStep e) := by
  rw [step_running h, State.boundaryStep, if_neg (by simp [State.quiet, ha])]
  simp only [show s.quiet.hwError = some e from he]

/-- The error taken is that of the boundary or one of those that the fetched instruction reads, and none of these ranks higher. -/
theorem errorAtPc_spec {s : State} {i : Instr} (h : decodeWord s.ir = .ok i) (e : HwError) :
    s.errorAtPc e ∈ e :: s.sourceErrors s.ir ∧
      ∀ f ∈ e :: s.sourceErrors s.ir, (s.errorAtPc e).priority ≤ f.priority := by
  simp only [State.errorAtPc, h]
  cases hw : worstError (e :: s.sourceErrors s.ir) with
  | none => exact absurd (worstError_eq_none hw) (List.cons_ne_nil _ _)
  | some f => exact worstError_spec hw

/-- All that an error detected at a boundary does, whichever error is taken. -/
theorem takesHwError_eventStep (e : HwError) (s : State) :
    s.TakesHwError (if s.refuses s.fetchRequest then e else s.readInstr.errorAtPc e) (s.eventStep e) := by
  unfold State.eventStep
  split
  · exact (takesHwError_takeHwError e s.requestFetch).of_fields (sameRegsBut_of_eq rfl rfl rfl) (fun _ _ => rfl) ⟨rfl, rfl⟩ rfl
      rfl rfl rfl rfl rfl rfl rfl rfl rfl
  · exact (takesHwError_takeHwError _ s.readInstr).of_fields (sameRegsBut_of_eq rfl rfl rfl) (fun _ _ => rfl) ⟨rfl, rfl⟩ rfl
      rfl rfl rfl rfl rfl rfl rfl rfl rfl

theorem step_interrupt {s : State} (h : s.Running) (ha : s.annul = false) (he : s.hwError = none)
    (hi : s.interruptPending = true) : step s = .next (s.quiet.takeTrap (.interruptLevel s.inputs.irl)) := by
  rw [step_running h, State.boundaryStep, if_neg (by simp [State.quiet, ha])]
  simp only [show s.quiet.hwError = none from he, show s.quiet.interruptPending = true from hi, if_true]
  rfl

/-- Nothing comes before the fetch. -/
theorem step_fetch {s : State} (h : s.Running) (ha : s.annul = false) (he : s.hwError = none)
    (hi : s.interruptPending = false) : step s = s.quiet.fetchStep exec := by
  rw [step_running h, State.boundaryStep, if_neg (by simp [State.quiet, ha])]
  simp only [show s.quiet.hwError = none from he, show s.quiet.interruptPending = false from hi, Bool.false_eq_true, if_false]

theorem step_fetchRefused {s : State} (h : s.Running) (ha : s.annul = false) (he : s.hwError = none)
    (hi : s.interruptPending = false) (hr : s.refuses s.fetchRequest = true) :
    step s = s.quiet.requestFetch.raise .instructionAccessException := by
  rw [step_fetch h ha he hi, State.fetchStep, if_pos (by exact hr)]

/-- The instruction at PC is reached. -/
theorem step_executes {s : State} (h : s.Fetches) : step s = s.quiet.fetched.executeWord exec := by
  rw [step_fetch h.running h.annul h.noError h.noInterrupt, State.fetchStep, if_neg (by
    show ¬s.refuses s.fetchRequest = true
    simp [h.accepted])]

theorem executeWord_ok {s : State} {i : Instr} {f : Instr → State → Result} (h : decodeWord s.ir = .ok i)
    (hp : s.sourceError s.ir = none) : s.executeWord f = f i s.otherMasters := by
  rw [State.executeWord, h]
  simp only [hp]

theorem executeWord_parity {s : State} {i : Instr} {f : Instr → State → Result} {e : HwError} (h : decodeWord s.ir = .ok i)
    (hp : s.sourceError s.ir = some e) : s.executeWord f = .next (s.takeHwError e) := by
  rw [State.executeWord, h]
  simp only [hp]

theorem executeWord_error {s : State} {e : DecodeError} {f : Instr → State → Result} (h : decodeWord s.ir = .error e) :
    s.executeWord f = s.raise .illegalInstruction := by
  rw [State.executeWord, h]

/-! ### The fetched word -/

/-- With no store remembered the words before are the word now. -/
theorem wordBefore_nil (m : List Host.Cell) (asi : Asi) (a : Word) :
    wordBefore [] m asi a = wordOfBytes (readCell m (memKey asi a)) (readCell m (memKey asi (a + 1#32)))
      (readCell m (memKey asi (a + 2#32))) (readCell m (memKey asi (a + 3#32))) := rfl

theorem wordNow_eq (s : State) : s.wordNow = s.readWord s.fetchAsi s.pc := rfl

/-- A stable fetch sees memory. -/
theorem fetchWord_of_stable {s : State} (h : s.fetchStable = true) : s.fetchWord = s.readWord s.fetchAsi s.pc := by
  rw [State.fetchWord, if_pos h, wordNow_eq]

/-- The fetched word is in the instruction register. -/
theorem ir_fetched (s : State) : s.fetched.ir = s.fetchWord := rfl

theorem fetchWord_quiet (s : State) : s.quiet.fetchWord = s.fetchWord := rfl

/-- The state a stable fetch leaves. -/
theorem fetched_of_stable {s : State} (h : s.fetchStable = true) :
    s.fetched =
      { s with
        ir := s.readWord s.fetchAsi s.pc
        bus := s.bus ++ [s.fetchRequest]
        signals := s.signals ++ [.inst]
        hwerror := s.hwerror.resumed s.pc
        storeUndo2 := s.storeUndo1
        storeUndo1 := [] } := by
  simp only [State.fetched, State.readInstr, h, if_true, fetchWord_of_stable h]

/-- Which registers a word reads, and their parity, the fetch does not change. -/
theorem sourceError_fetched (s : State) (w : Word) : s.fetched.sourceError w = s.sourceError w :=
  sourceError_congr rfl rfl rfl w

theorem sourceError_quiet (s : State) (w : Word) : s.quiet.sourceError w = s.sourceError w :=
  sourceError_congr rfl rfl rfl w

end Sys2Proof.Machine
end

