-- ==== Sys2Proof/Laws/Words.lean ====
section
/-! SUPPORT. Which unit the words of the instructions belong to. -/

namespace Sys2Proof.Machine

/-! ### The formats -/

theorem ownsWord_fmt2Branch (k : UnitKind) (a : Bool) (c : BitVec 4) (o : BitVec 3) (d : BitVec 22) :
    k.ownsWord (fmt2Branch a c o d) =
      match k with
      | .fpu => o == 6#3
      | .cp => o == 7#3 := by
  cases k
  · show fpWord _ = _; unfold fpWord; simp [fieldOp_fmt2Branch, fieldOpTwo_fmt2Branch]
  · show cpWord _ = _; unfold cpWord; simp [fieldOp_fmt2Branch, fieldOpTwo_fmt2Branch]

theorem ownsWord_fmt2Imm (k : UnitKind) (r : RegNum) (o : BitVec 3) (d : BitVec 22) :
    k.ownsWord (fmt2Imm r o d) =
      match k with
      | .fpu => o == 6#3
      | .cp => o == 7#3 := by
  cases k
  · show fpWord _ = _; unfold fpWord; simp [fieldOp_fmt2Imm, fieldOpTwo_fmt2Imm]
  · show cpWord _ = _; unfold cpWord; simp [fieldOp_fmt2Imm, fieldOpTwo_fmt2Imm]

theorem ownsWord_call (k : UnitKind) (d : BitVec 30) : k.ownsWord (1#2 ++ d) = false := by
  cases k
  · show fpWord _ = _; unfold fpWord; simp [fieldOp_call]
  · show cpWord _ = _; unfold cpWord; simp [fieldOp_call]

theorem ownsWord_arith (k : UnitKind) (rd : RegNum) (op3 : BitVec 6) (rs1 : RegNum) (low : BitVec 14) :
    k.ownsWord (fmt3 2#2 rd op3 rs1 low) =
      match k with
      | .fpu => op3 == 52#6 || op3 == 53#6
      | .cp => op3 == 54#6 || op3 == 55#6 := by
  cases k
  · show fpWord _ = _; unfold fpWord; simp [fieldOp_fmt3, fieldOp3_fmt3]
  · show cpWord _ = _; unfold cpWord; simp [fieldOp_fmt3, fieldOp3_fmt3]

theorem ownsWord_mem (k : UnitKind) (rd : RegNum) (op3 : BitVec 6) (rs1 : RegNum) (low : BitVec 14) :
    k.ownsWord (fmt3 3#2 rd op3 rs1 low) =
      match k with
      | .fpu => [32#6, 33#6, 35#6, 36#6, 37#6, 38#6, 39#6].contains op3
      | .cp => [48#6, 49#6, 51#6, 52#6, 53#6, 54#6, 55#6].contains op3 := by
  cases k
  · show fpWord _ = _; unfold fpWord; simp [fieldOp_fmt3, fieldOp3_fmt3]
  · show cpWord _ = _; unfold cpWord; simp [fieldOp_fmt3, fieldOp3_fmt3]

/-! ### The instructions -/

/-- The unit an operate instruction is launched into. -/
def launchedInto : Instr → Option UnitKind
  | .fpop1 .. | .fmovs .. | .fnegs .. | .fabss .. | .fsqrts .. | .fsqrtd .. | .fsqrtx .. | .fadds .. | .faddd .. |
    .faddx .. | .fsubs .. | .fsubd .. | .fsubx .. | .fmuls .. | .fmuld .. | .fmulx .. | .fdivs .. | .fdivd .. | .fdivx
    .. | .fitos .. | .fdtos .. | .fxtos .. | .fitod .. | .fstod .. | .fxtod .. | .fitox .. | .fstox .. | .fdtox .. |
    .fstoi .. | .fdtoi .. | .fxtoi .. | .fpop2 .. | .fcmps .. | .fcmpd .. | .fcmpx .. | .fcmpes .. | .fcmped .. |
    .fcmpex .. => some .fpu
  | .cpop1 .. | .cpop2 .. => some .cp
  | _ => none

/-- The unit whose condition codes a branch tests. -/
def branchesOn : Instr → Option UnitKind
  | .fbn .. | .fbne .. | .fblg .. | .fbul .. | .fbl .. | .fbug .. | .fbg .. | .fbu .. | .fba .. | .fbe .. | .fbue .. |
    .fbge .. | .fbuge .. | .fble .. | .fbule .. | .fbo .. => some .fpu
  | .cbn .. | .cb123 .. | .cb12 .. | .cb13 .. | .cb1 .. | .cb23 .. | .cb2 .. | .cb3 .. | .cba .. | .cb0 .. | .cb03 ..
    | .cb02 .. | .cb023 .. | .cb01 .. | .cb013 .. | .cb012 .. => some .cp
  | _ => none

/-- The unit a memory form moves data of. -/
def movesDataOf : Instr → Option UnitKind
  | .ldf .. | .ldfsr .. | .lddf .. | .stf .. | .stfsr .. | .stdfq .. | .stdf .. => some .fpu
  | .ldc .. | .ldcsr .. | .lddc .. | .stc .. | .stcsr .. | .stdcq .. | .stdc .. => some .cp
  | _ => none

/-- The words of a unit's instructions are those of its operate instructions, branches and memory forms. -/
theorem ownsWord_encode (k : UnitKind) (i : Instr) :
    k.ownsWord (encode i) = (launchedInto i == some k || branchesOn i == some k || movesDataOf i == some k) := by
  cases i <;>
    simp only [encode, fpopWord, ownsWord_fmt2Branch, ownsWord_fmt2Imm, ownsWord_call, ownsWord_arith, ownsWord_mem] <;>
    cases k <;> rfl

/-- An operate instruction is launched as it is encoded. -/
theorem exec_launchedInto {k : UnitKind} {i : Instr} (h : launchedInto i = some k) (s : State) :
    exec i s = s.operate k (encode i) := by
  cases i <;> first | (cases h; rfl) | cases h

/-- The op field of an encoded instruction. -/
def opClass : Instr → BitVec 2
  | .unimp .. | .sethi .. | .bn .. | .be .. | .ble .. | .bl .. | .bleu .. | .bcs .. | .bneg .. | .bvs .. | .ba .. |
    .bne .. | .bg .. | .bge .. | .bgu .. | .bcc .. | .bpos .. | .bvc .. | .fbn .. | .fbne .. | .fblg .. | .fbul .. |
    .fbl .. | .fbug .. | .fbg .. | .fbu .. | .fba .. | .fbe .. | .fbue .. | .fbge .. | .fbuge .. | .fble .. | .fbule
    .. | .fbo .. | .cbn .. | .cb123 .. | .cb12 .. | .cb13 .. | .cb1 .. | .cb23 .. | .cb2 .. | .cb3 .. | .cba .. | .cb0
    .. | .cb03 .. | .cb02 .. | .cb023 .. | .cb01 .. | .cb013 .. | .cb012 .. => 0#2
  | .call .. => 1#2
  | .ld .. | .ldub .. | .lduh .. | .ldd .. | .st .. | .stb .. | .sth .. | .std .. | .ldsb .. | .ldsh .. | .ldstub .. |
    .swap .. | .lda .. | .lduba .. | .lduha .. | .ldda .. | .sta .. | .stba .. | .stha .. | .stda .. | .ldsba .. |
    .ldsha .. | .ldstuba .. | .swapa .. | .ldf .. | .ldfsr .. | .lddf .. | .stf .. | .stfsr .. | .stdfq .. | .stdf ..
    | .ldc .. | .ldcsr .. | .lddc .. | .stc .. | .stcsr .. | .stdcq .. | .stdc .. => 3#2
  | _ => 2#2

theorem fieldOp_encode (i : Instr) : fieldOp (encode i) = opClass i := by
  cases i <;> simp only [encode, fpopWord, fieldOp_fmt2Branch, fieldOp_fmt2Imm, fieldOp_call, fieldOp_fmt3] <;> rfl

end Sys2Proof.Machine
end

