-- ==== Sys2Proof/Tests/Slice0.lean ====
section
/-! SUPPORT. The model's own tests: ill-formed terms, the decoding of every constructor, single steps, and for each statement a
state that meets its hypotheses. The words of the decoding tests are the match values of the encoding tables of
30_encoding.md with operand fields filled in by hand; the results of the single steps are those of 95_test_vectors.md
Part 2. -/

namespace Sys2Proof.Tests

open Sys2Proof Sys2Proof.Machine

/-! ### Well-formedness -/

theorem test_fpop1_assigned_opf_is_ill_formed : (Instr.fpop1 3#5 1#5 0x041#9 2#5).wellFormed = false := by decide

theorem test_fpop2_assigned_opf_is_ill_formed : (Instr.fpop2 3#5 1#5 0x051#9 2#5).wellFormed = false := by decide

theorem test_fpop_unassigned_opf_is_well_formed :
    (Instr.fpop1 3#5 1#5 0x051#9 2#5).wellFormed = true ∧ (Instr.fpop2 3#5 1#5 0x041#9 2#5).wellFormed = true := by decide

/-! ### Decoding: every constructor once -/

/-- Every word of a list decodes to the instruction beside it. -/
def Decodes (l : List (Word × Instr)) : Prop := l.map (fun p => (decodeWord p.1).toOption) = l.map (fun p => some p.2)

theorem test_decode_format2_and_call :
    Decodes
      [(0x0000002A#32, .unimp 0x2A#22), (0x03048D15#32, .sethi 1#5 0x48D15#22), (0x40000010#32, .call 0x10#30)] := by
  unfold Decodes; decide

theorem test_decode_bicc :
    Decodes
      [(0x00800007#32, .bn false 7#22), (0x22BFFFFE#32, .be true 0x3FFFFE#22), (0x04800007#32, .ble false 7#22),
       (0x26BFFFFE#32, .bl true 0x3FFFFE#22), (0x08800007#32, .bleu false 7#22), (0x2ABFFFFE#32, .bcs true 0x3FFFFE#22),
       (0x0C800007#32, .bneg false 7#22), (0x2EBFFFFE#32, .bvs true 0x3FFFFE#22), (0x10800007#32, .ba false 7#22),
       (0x32BFFFFE#32, .bne true 0x3FFFFE#22), (0x14800007#32, .bg false 7#22), (0x36BFFFFE#32, .bge true 0x3FFFFE#22),
       (0x18800007#32, .bgu false 7#22), (0x3ABFFFFE#32, .bcc true 0x3FFFFE#22), (0x1C800007#32, .bpos false 7#22),
       (0x3EBFFFFE#32, .bvc true 0x3FFFFE#22)] := by
  unfold Decodes; decide

theorem test_decode_fbfcc :
    Decodes
      [(0x01800007#32, .fbn false 7#22), (0x23BFFFFE#32, .fbne true 0x3FFFFE#22), (0x05800007#32, .fblg false 7#22),
       (0x27BFFFFE#32, .fbul true 0x3FFFFE#22), (0x09800007#32, .fbl false 7#22), (0x2BBFFFFE#32, .fbug true 0x3FFFFE#22),
       (0x0D800007#32, .fbg false 7#22), (0x2FBFFFFE#32, .fbu true 0x3FFFFE#22), (0x11800007#32, .fba false 7#22),
       (0x33BFFFFE#32, .fbe true 0x3FFFFE#22), (0x15800007#32, .fbue false 7#22), (0x37BFFFFE#32, .fbge true 0x3FFFFE#22),
       (0x19800007#32, .fbuge false 7#22), (0x3BBFFFFE#32, .fble true 0x3FFFFE#22), (0x1D800007#32, .fbule false 7#22),
       (0x3FBFFFFE#32, .fbo true 0x3FFFFE#22)] := by
  unfold Decodes; decide

theorem test_decode_cbccc :
    Decodes
      [(0x01C00007#32, .cbn false 7#22), (0x23FFFFFE#32, .cb123 true 0x3FFFFE#22), (0x05C00007#32, .cb12 false 7#22),
       (0x27FFFFFE#32, .cb13 true 0x3FFFFE#22), (0x09C00007#32, .cb1 false 7#22), (0x2BFFFFFE#32, .cb23 true 0x3FFFFE#22),
       (0x0DC00007#32, .cb2 false 7#22), (0x2FFFFFFE#32, .cb3 true 0x3FFFFE#22), (0x11C00007#32, .cba false 7#22),
       (0x33FFFFFE#32, .cb0 true 0x3FFFFE#22), (0x15C00007#32, .cb03 false 7#22), (0x37FFFFFE#32, .cb02 true 0x3FFFFE#22),
       (0x19C00007#32, .cb023 false 7#22), (0x3BFFFFFE#32, .cb01 true 0x3FFFFE#22), (0x1DC00007#32, .cb013 false 7#22),
       (0x3FFFFFFE#32, .cb012 true 0x3FFFFE#22)] := by
  unfold Decodes; decide

theorem test_decode_logical :
    Decodes
      [(0x86084002#32, .and 3#5 1#5 (.reg 2#5)), (0x86107FFC#32, .or 3#5 1#5 (.imm 0x1FFC#13)),
       (0x86184002#32, .xor 3#5 1#5 (.reg 2#5)), (0x86284002#32, .andn 3#5 1#5 (.reg 2#5)),
       (0x86307FFC#32, .orn 3#5 1#5 (.imm 0x1FFC#13)), (0x86384002#32, .xnor 3#5 1#5 (.reg 2#5)),
       (0x86884002#32, .andcc 3#5 1#5 (.reg 2#5)), (0x86907FFC#32, .orcc 3#5 1#5 (.imm 0x1FFC#13)),
       (0x86984002#32, .xorcc 3#5 1#5 (.reg 2#5)), (0x86A84002#32, .andncc 3#5 1#5 (.reg 2#5)),
       (0x86B07FFC#32, .orncc 3#5 1#5 (.imm 0x1FFC#13)), (0x86B84002#32, .xnorcc 3#5 1#5 (.reg 2#5))] := by
  unfold Decodes; decide

theorem test_decode_arithmetic :
    Decodes
      [(0x86007FFC#32, .add 3#5 1#5 (.imm 0x1FFC#13)), (0x86207FFC#32, .sub 3#5 1#5 (.imm 0x1FFC#13)),
       (0x86407FFC#32, .addx 3#5 1#5 (.imm 0x1FFC#13)), (0x86604002#32, .subx 3#5 1#5 (.reg 2#5)),
       (0x86807FFC#32, .addcc 3#5 1#5 (.imm 0x1FFC#13)), (0x86A07FFC#32, .subcc 3#5 1#5 (.imm 0x1FFC#13)),
       (0x86C07FFC#32, .addxcc 3#5 1#5 (.imm 0x1FFC#13)), (0x86E04002#32, .subxcc 3#5 1#5 (.reg 2#5)),
       (0x87007FFC#32, .taddcc 3#5 1#5 (.imm 0x1FFC#13)), (0x87084002#32, .tsubcc 3#5 1#5 (.reg 2#5)),
       (0x87107FFC#32, .taddcctv 3#5 1#5 (.imm 0x1FFC#13)), (0x87184002#32, .tsubcctv 3#5 1#5 (.reg 2#5)),
       (0x87207FFC#32, .mulscc 3#5 1#5 (.imm 0x1FFC#13))] := by
  unfold Decodes; decide

theorem test_decode_shift :
    Decodes
      [(0x87284002#32, .sll 3#5 1#5 (.reg 2#5)), (0x8730601F#32, .srl 3#5 1#5 (.imm 31#5)),
       (0x87384002#32, .sra 3#5 1#5 (.reg 2#5))] := by
  unfold Decodes; decide

theorem test_decode_control_registers :
    Decodes
      [(0x87400000#32, .rdy 3#5), (0x87480000#32, .rdpsr 3#5), (0x87500000#32, .rdwim 3#5), (0x87580000#32, .rdtbr 3#5),
       (0x81806008#32, .wry 1#5 (.imm 8#13)), (0x81884002#32, .wrpsr 1#5 (.reg 2#5)), (0x81906008#32, .wrwim 1#5 (.imm 8#13)),
       (0x81984002#32, .wrtbr 1#5 (.reg 2#5))] := by
  unfold Decodes; decide

theorem test_decode_jump_window_flush :
    Decodes
      [(0x87C07FFC#32, .jmpl 3#5 1#5 (.imm 0x1FFC#13)), (0x81C84002#32, .rett 1#5 (.reg 2#5)),
       (0x81D86008#32, .iflush 1#5 (.imm 8#13)), (0x87E04002#32, .save 3#5 1#5 (.reg 2#5)),
       (0x87E87FFC#32, .restore 3#5 1#5 (.imm 0x1FFC#13))] := by
  unfold Decodes; decide

theorem test_decode_ticc :
    Decodes
      [(0x81D06005#32, .tn 1#5 (.imm 5#13)), (0x83D04002#32, .te 1#5 (.reg 2#5)), (0x85D06005#32, .tle 1#5 (.imm 5#13)),
       (0x87D04002#32, .tl 1#5 (.reg 2#5)), (0x89D06005#32, .tleu 1#5 (.imm 5#13)), (0x8BD04002#32, .tcs 1#5 (.reg 2#5)),
       (0x8DD06005#32, .tneg 1#5 (.imm 5#13)), (0x8FD04002#32, .tvs 1#5 (.reg 2#5)), (0x91D06005#32, .ta 1#5 (.imm 5#13)),
       (0x93D04002#32, .tne 1#5 (.reg 2#5)), (0x95D06005#32, .tg 1#5 (.imm 5#13)), (0x97D04002#32, .tge 1#5 (.reg 2#5)),
       (0x99D06005#32, .tgu 1#5 (.imm 5#13)), (0x9BD04002#32, .tcc 1#5 (.reg 2#5)), (0x9DD06005#32, .tpos 1#5 (.imm 5#13)),
       (0x9FD04002#32, .tvc 1#5 (.reg 2#5))] := by
  unfold Decodes; decide

theorem test_decode_fpop :
    Decodes
      [(0x87A07FE2#32, .fpop1 3#5 1#5 0x1FF#9 2#5), (0x87A04022#32, .fmovs 3#5 1#5 2#5), (0x87A040A2#32, .fnegs 3#5 1#5 2#5),
       (0x87A04122#32, .fabss 3#5 1#5 2#5), (0x87A04522#32, .fsqrts 3#5 1#5 2#5), (0x87A04542#32, .fsqrtd 3#5 1#5 2#5),
       (0x87A04562#32, .fsqrtx 3#5 1#5 2#5), (0x87A04822#32, .fadds 3#5 1#5 2#5), (0x87A04842#32, .faddd 3#5 1#5 2#5),
       (0x87A04862#32, .faddx 3#5 1#5 2#5), (0x87A048A2#32, .fsubs 3#5 1#5 2#5), (0x87A048C2#32, .fsubd 3#5 1#5 2#5),
       (0x87A048E2#32, .fsubx 3#5 1#5 2#5), (0x87A04922#32, .fmuls 3#5 1#5 2#5), (0x87A04942#32, .fmuld 3#5 1#5 2#5),
       (0x87A04962#32, .fmulx 3#5 1#5 2#5), (0x87A049A2#32, .fdivs 3#5 1#5 2#5), (0x87A049C2#32, .fdivd 3#5 1#5 2#5),
       (0x87A049E2#32, .fdivx 3#5 1#5 2#5), (0x87A05882#32, .fitos 3#5 1#5 2#5), (0x87A058C2#32, .fdtos 3#5 1#5 2#5),
       (0x87A058E2#32, .fxtos 3#5 1#5 2#5), (0x87A05902#32, .fitod 3#5 1#5 2#5), (0x87A05922#32, .fstod 3#5 1#5 2#5),
       (0x87A05962#32, .fxtod 3#5 1#5 2#5), (0x87A05982#32, .fitox 3#5 1#5 2#5), (0x87A059A2#32, .fstox 3#5 1#5 2#5),
       (0x87A059C2#32, .fdtox 3#5 1#5 2#5), (0x87A05A22#32, .fstoi 3#5 1#5 2#5), (0x87A05A42#32, .fdtoi 3#5 1#5 2#5),
       (0x87A05A62#32, .fxtoi 3#5 1#5 2#5), (0x87A87FE2#32, .fpop2 3#5 1#5 0x1FF#9 2#5), (0x87A84A22#32, .fcmps 3#5 1#5 2#5),
       (0x87A84A42#32, .fcmpd 3#5 1#5 2#5), (0x87A84A62#32, .fcmpx 3#5 1#5 2#5), (0x87A84AA2#32, .fcmpes 3#5 1#5 2#5),
       (0x87A84AC2#32, .fcmped 3#5 1#5 2#5), (0x87A84AE2#32, .fcmpex 3#5 1#5 2#5)] := by
  unfold Decodes; decide

theorem test_decode_cpop :
    Decodes
      [(0x87B06AA2#32, .cpop1 3#5 1#5 0x155#9 2#5), (0x87B86AA2#32, .cpop2 3#5 1#5 0x155#9 2#5)] := by
  unfold Decodes; decide

theorem test_decode_load_store :
    Decodes
      [(0xC6004002#32, .ld 3#5 1#5 (.reg 2#5)), (0xC6087FFC#32, .ldub 3#5 1#5 (.imm 0x1FFC#13)),
       (0xC6104002#32, .lduh 3#5 1#5 (.reg 2#5)), (0xC6187FFC#32, .ldd 3#5 1#5 (.imm 0x1FFC#13)),
       (0xC6204002#32, .st 3#5 1#5 (.reg 2#5)), (0xC6287FFC#32, .stb 3#5 1#5 (.imm 0x1FFC#13)),
       (0xC6304002#32, .sth 3#5 1#5 (.reg 2#5)), (0xC6387FFC#32, .std 3#5 1#5 (.imm 0x1FFC#13)),
       (0xC6484002#32, .ldsb 3#5 1#5 (.reg 2#5)), (0xC6507FFC#32, .ldsh 3#5 1#5 (.imm 0x1FFC#13)),
       (0xC6684002#32, .ldstub 3#5 1#5 (.reg 2#5)), (0xC6787FFC#32, .swap 3#5 1#5 (.imm 0x1FFC#13))] := by
  unfold Decodes; decide

theorem test_decode_alternate_space :
    Decodes
      [(0xC6804142#32, .lda 3#5 1#5 0x0A#8 2#5), (0xC6884142#32, .lduba 3#5 1#5 0x0A#8 2#5),
       (0xC6904142#32, .lduha 3#5 1#5 0x0A#8 2#5), (0xC6984142#32, .ldda 3#5 1#5 0x0A#8 2#5),
       (0xC6A04142#32, .sta 3#5 1#5 0x0A#8 2#5), (0xC6A84142#32, .stba 3#5 1#5 0x0A#8 2#5),
       (0xC6B04142#32, .stha 3#5 1#5 0x0A#8 2#5), (0xC6B84142#32, .stda 3#5 1#5 0x0A#8 2#5),
       (0xC6C84142#32, .ldsba 3#5 1#5 0x0A#8 2#5), (0xC6D04142#32, .ldsha 3#5 1#5 0x0A#8 2#5),
       (0xC6E84142#32, .ldstuba 3#5 1#5 0x0A#8 2#5), (0xC6F84142#32, .swapa 3#5 1#5 0x0A#8 2#5)] := by
  unfold Decodes; decide

theorem test_decode_unit_memory :
    Decodes
      [(0xC7004002#32, .ldf 3#5 1#5 (.reg 2#5)), (0xC7087FFC#32, .ldfsr 3#5 1#5 (.imm 0x1FFC#13)),
       (0xC7184002#32, .lddf 3#5 1#5 (.reg 2#5)), (0xC7207FFC#32, .stf 3#5 1#5 (.imm 0x1FFC#13)),
       (0xC7284002#32, .stfsr 3#5 1#5 (.reg 2#5)), (0xC7307FFC#32, .stdfq 3#5 1#5 (.imm 0x1FFC#13)),
       (0xC7384002#32, .stdf 3#5 1#5 (.reg 2#5)), (0xC7807FFC#32, .ldc 3#5 1#5 (.imm 0x1FFC#13)),
       (0xC7884002#32, .ldcsr 3#5 1#5 (.reg 2#5)), (0xC7987FFC#32, .lddc 3#5 1#5 (.imm 0x1FFC#13)),
       (0xC7A04002#32, .stc 3#5 1#5 (.reg 2#5)), (0xC7A87FFC#32, .stcsr 3#5 1#5 (.imm 0x1FFC#13)),
       (0xC7B04002#32, .stdcq 3#5 1#5 (.reg 2#5)), (0xC7B87FFC#32, .stdc 3#5 1#5 (.imm 0x1FFC#13))] := by
  unfold Decodes; decide

theorem test_decode_unassigned :
    [0x3E3FFFFF#32, 0x00400000#32, 0x00C00000#32, 0x01400000#32, 0x80480000#32, 0x81600000#32, 0x81F00000#32, 0xC0404000#32,
      0xC0E04000#32, 0xC1104000#32, 0xC1C04000#32, 0xC6806000#32].map (fun w => (decodeWord w).toOption) =
      [some (.unimp 0x3FFFFF#22), none, none, none, none, none, none, none, none, none, none, none] := by decide

/-! ### Single steps (95_test_vectors.md Part 2; the start state is the one its conventions give) -/

/-- The start state: PC = 0x100, S = 1, ET = 1, CWP = 3, TBA = 4. -/
def start : State :=
  { State.reset with
    pc := 0x100#32
    npc := 0x104#32
    tba := 0x4#20
    psr := { State.reset.psr with et := true, cwp := 3#3 } }

/-- What is seen of the state after one step that executes a word. -/
def after {α : Type} (w : Nat) (s : State) (see : State → α) : Option α :=
  match step (s.withFetchWord 32 w) with
  | .next t => some (see t)
  | _ => none

/-- The flags as the number NZVC. -/
def nzvc (s : State) : Nat := 8 * s.psr.icc.n.toNat + 4 * s.psr.icc.z.toNat + 2 * s.psr.icc.v.toNat + s.psr.icc.c.toNat

/-- The state with the flags of the number NZVC. -/
def flags (s : State) (n : BitVec 4) : State := s.setIcc ⟨n.getLsbD 3, n.getLsbD 2, n.getLsbD 1, n.getLsbD 0⟩

/-- The start state with r[1] and r[2]. -/
def operands (a b : Word) : State := (start.writeReg 1#5 a).writeReg 2#5 b

/-- r[3] and NZVC after a word, from r[1], r[2] and NZVC. -/
def compute (w : Nat) (a b : Word) (icc : BitVec 4) : Option (Word × Nat) :=
  after w (flags (operands a b) icc) fun t => (t.readReg 3#5, nzvc t)

theorem test_add_sub :
    [compute 0x86004002 0x7FFFFFFF#32 0x1#32 0#4, compute 0x86804002 0xFFFFFFFF#32 0x1#32 0#4,
      compute 0x86804002 0x80000000#32 0x80000000#32 0#4, compute 0x86404002 0x5#32 0x7#32 1#4,
      compute 0x86404002 0x5#32 0x7#32 0#4, compute 0x86C04002 0xFFFFFFFF#32 0x0#32 1#4,
      compute 0x86C04002 0x7FFFFFFF#32 0x0#32 1#4, compute 0x86204002 0x5#32 0x7#32 0#4, compute 0x86A04002 0x7#32 0x7#32 0#4,
      compute 0x86A04002 0x7FFFFFFF#32 0xFFFFFFFF#32 0#4, compute 0x86604002 0x5#32 0x7#32 1#4,
      compute 0x86E04002 0x0#32 0xFFFFFFFF#32 1#4, compute 0x86E04002 0x80000000#32 0x0#32 1#4] =
      [some (0x80000000#32, 0), some (0x0#32, 5), some (0x0#32, 7), some (0xD#32, 1), some (0xC#32, 0), some (0x0#32, 5),
        some (0x80000000#32, 10), some (0xFFFFFFFE#32, 0), some (0x0#32, 4), some (0x80000000#32, 11),
        some (0xFFFFFFFD#32, 1), some (0x0#32, 5), some (0x7FFFFFFF#32, 2)] := by
  decide

theorem test_logical :
    [compute 0x86084002 0xF0F0F0F0#32 0xFF00FF00#32 0#4, compute 0x86884002 0xF0F0F0F0#32 0xF0F0F0F#32 15#4,
      compute 0x86284002 0xF0F0F0F0#32 0xFF00FF00#32 0#4, compute 0x86A84002 0xF0F0F0F0#32 0xFF00FF00#32 3#4,
      compute 0x86104002 0xF0F0F0F0#32 0xFF00FF00#32 0#4, compute 0x86904002 0x0#32 0x0#32 11#4,
      compute 0x86304002 0xF0F0F0F0#32 0xFF00FF00#32 0#4, compute 0x86B04002 0xF0F0F0F0#32 0xFF00FF00#32 0#4,
      compute 0x86184002 0xF0F0F0F0#32 0xFF00FF00#32 0#4, compute 0x86984002 0xF0F0F0F0#32 0xF0F0F0F0#32 11#4,
      compute 0x86384002 0xF0F0F0F0#32 0xFF00FF00#32 0#4, compute 0x86B84002 0xF0F0F0F0#32 0xF0F0F0F#32 3#4] =
      [some (0xF000F000#32, 0), some (0x0#32, 4), some (0xF000F0#32, 0), some (0xF000F0#32, 0), some (0xFFF0FFF0#32, 0),
        some (0x0#32, 4), some (0xF0FFF0FF#32, 0), some (0xF0FFF0FF#32, 8), some (0xFF00FF0#32, 0), some (0x0#32, 4),
        some (0xF00FF00F#32, 0), some (0x0#32, 4)] := by
  decide

theorem test_shifts :
    [compute 0x87284002 0x80000001#32 0x20#32 0#4, compute 0x87284002 0x80000001#32 0xFFFFFFE4#32 0#4,
      compute 0x87304002 0x80000001#32 0x1F#32 0#4, compute 0x87304002 0x80000001#32 0x21#32 0#4,
      compute 0x87384002 0x80000001#32 0x1#32 0#4, compute 0x87384002 0x80000001#32 0x1F#32 0#4] =
      [some (0x80000001#32, 0), some (0x10#32, 0), some (0x1#32, 0), some (0x40000000#32, 0), some (0xC0000000#32, 0),
        some (0xFFFFFFFF#32, 0)] := by
  decide

theorem test_tagged :
    [compute 0x87004002 0x4#32 0x3#32 0#4, compute 0x87004002 0x1#32 0xFFFFFFFF#32 0#4, compute 0x87084002 0xC#32 0x1#32 0#4,
      compute 0x87084002 0x80000000#32 0x4#32 0#4, compute 0x87104002 0x4#32 0x8#32 0#4, compute 0x87104002 0x4#32 0x3#32 5#4,
      compute 0x87184002 0xC#32 0x4#32 0#4, compute 0x87184002 0xC#32 0x2#32 8#4] =
      [some (0x7#32, 2), some (0x0#32, 7), some (0xB#32, 2), some (0x7FFFFFFC#32, 2), some (0xC#32, 0), some (0x0#32, 5),
        some (0x8#32, 0), some (0x0#32, 8)] := by
  decide

/-- After a trap: the trap type, PC, nPC, CWP, and r[17] and r[18]. -/
def trapSeen (t : State) : List Nat :=
  [t.tt.toNat, t.pc.toNat, t.npc.toNat, t.psr.cwp.toNat, (t.readReg 17#5).toNat, (t.readReg 18#5).toNat]

theorem test_tagged_trap_writes_nothing :
    [after 0x87104002 (flags (operands 4#32 3#32) 5#4) fun t => (t.readReg 3#5, nzvc t, trapSeen t),
      after 0x87184002 (flags (operands 0xC#32 2#32) 8#4) fun t => (t.readReg 3#5, nzvc t, trapSeen t)] =
      [some (0#32, 5, [10, 0x40A0, 0x40A4, 2, 0x100, 0x104]), some (0#32, 8, [10, 0x40A0, 0x40A4, 2, 0x100, 0x104])] := by
  decide

theorem test_immediates :
    [after 0x86007FFF (operands 1#32 0#32) fun t => t.readReg 3#5, after 0x86207000 start fun t => t.readReg 3#5,
      after 0x8728601F (operands 1#32 0#32) fun t => t.readReg 3#5,
      after 0x87386003 (operands 0x80000000#32 0#32) fun t => t.readReg 3#5, after 0x03048D15 start fun t => t.readReg 1#5,
      after 0x073FFFFF start fun t => t.readReg 3#5, after 0x80804002 (operands 0xFFFFFFFF#32 1#32) fun t => t.readReg 0#5] =
      [some 0#32, some 0x1000#32, some 0x80000000#32, some 0xF0000000#32, some 0x12345400#32, some 0xFFFFFC00#32,
        some 0#32] := by
  decide

/-- r[3], NZVC and Y after MULScc. -/
def mulStep (a b : Word) (icc : BitVec 4) (y : Word) : Option (Word × Nat × Word) :=
  after 0x87204002 { flags (operands a b) icc with y := y } fun t => (t.readReg 3#5, nzvc t, t.y)

theorem test_mulscc :
    [mulStep 7#32 5#32 8#4 1#32, mulStep 0x80000000#32 0x80000000#32 8#4 0xFFFFFFFF#32] =
      [some (0x80000008#32, 8, 0x80000000#32), some (0x40000000#32, 3, 0x7FFFFFFF#32)] := by
  decide

/-! #### Loads, stores and atomics (sections 2.1 to 2.3) -/

/-- The state of section 2.1: two words of memory at 0x2000, and r[1] to r[3], r[8], r[9]. -/
def withData : State :=
  { ((((start.writeReg 1#5 0x2000#32).writeReg 2#5 4#32).writeReg 3#5 0xA1B2C3D4#32).writeReg 8#5 0x33333333#32).writeReg 9#5
      0x22222222#32 with
    mem := writeSpan [] 0x0B#8 0x2000#32 [0x80#8, 0xFF#8, 0x7F#8, 0x01#8, 0x89#8, 0xAB#8, 0xCD#8, 0xEF#8] }

theorem test_loads :
    [0xC6004002, 0xC6086001, 0xC6486000, 0xC6106000, 0xC6506000, 0xC6804140, 0xC6884140, 0xC6C84140, 0xC6904140,
        0xC6D04140].map (fun w => after w withData fun t => t.readReg 3#5) =
      [some 0x89ABCDEF#32, some 0xFF#32, some 0xFFFFFF80#32, some 0x80FF#32, some 0xFFFF80FF#32, some 0x80FF7F01#32,
        some 0x80#32, some 0xFFFFFF80#32, some 0x80FF#32, some 0xFFFF80FF#32] := by
  decide

theorem test_double_loads :
    [0xD0186000, 0xD2186000, 0xD0984140, 0xC0186000].map
        (fun w => after w withData fun t => (t.readReg 8#5, t.readReg 9#5, t.readReg 0#5, t.readReg 1#5)) =
      [some (0x80FF7F01#32, 0x89ABCDEF#32, 0#32, 0x2000#32), some (0x80FF7F01#32, 0x89ABCDEF#32, 0#32, 0x2000#32),
        some (0x80FF7F01#32, 0x89ABCDEF#32, 0#32, 0x2000#32),
        some (0x33333333#32, 0x22222222#32, 0#32, 0x89ABCDEF#32)] := by
  decide

/-- The words of memory at 0x2000, 0x2004, 0x2008. -/
def dataSeen (t : State) : List Word := [0x2000#32, 0x2004#32, 0x2008#32].map (t.readWord 0x0B#8)

theorem test_stores :
    [0xC6206008, 0xC6286001, 0xC6306002, 0xD0386000, 0xC6A04160, 0xC6A84160, 0xC6B04160, 0xD0B84160].map
        (fun w => after w withData dataSeen) =
      [some [0x80FF7F01#32, 0x89ABCDEF#32, 0xA1B2C3D4#32], some [0x80D47F01#32, 0x89ABCDEF#32, 0#32],
        some [0x80FFC3D4#32, 0x89ABCDEF#32, 0#32], some [0x33333333#32, 0x22222222#32, 0#32],
        some [0xA1B2C3D4#32, 0x89ABCDEF#32, 0#32], some [0xD4FF7F01#32, 0x89ABCDEF#32, 0#32],
        some [0xC3D47F01#32, 0x89ABCDEF#32, 0#32], some [0x33333333#32, 0x22222222#32, 0#32]] := by
  decide

theorem test_atomics :
    [0xC6686003, 0xC6786004, 0xC6E84160, 0xC6F84160].map (fun w => after w withData fun t => (t.readReg 3#5, dataSeen t)) =
      [some (1#32, [0x80FF7FFF#32, 0x89ABCDEF#32, 0#32]), some (0x89ABCDEF#32, [0x80FF7F01#32, 0xA1B2C3D4#32, 0#32]),
        some (0x80#32, [0xFFFF7F01#32, 0x89ABCDEF#32, 0#32]),
        some (0x80FF7F01#32, [0xA1B2C3D4#32, 0x89ABCDEF#32, 0#32])] := by
  decide

theorem test_misaligned :
    [0xC6006002, 0xC6106001, 0xD0186004, 0xC6206001, 0xC6306003, 0xD0386004, 0xC6786002].map
        (fun w => after w withData fun t => (t.tt, t.pc, dataSeen t)) =
      List.replicate 7 (some (7#8, 0x4070#32, [0x80FF7F01#32, 0x89ABCDEF#32, 0#32])) := by
  decide

theorem test_big_endian_bus_lanes :
    [0xC6286001, 0xC6306002].map (fun w => after w withData fun t => t.bus.map (fun r => (r.addr, r.size, r.data))) =
      [some [(0x100#32, 2#2, none), (0x2001#32, 0#2, some 0xD4D4D4D4#32)],
        some [(0x100#32, 2#2, none), (0x2002#32, 1#2, some 0xC3D4C3D4#32)]] := by
  decide

/-! #### Control transfers (sections 2.6 and 2.7) -/

/-- PC, nPC and annul after a branch at 0x1000. -/
def branchAt (w : Nat) (icc : BitVec 4) : Option (Nat × Nat × Bool) :=
  after w { flags start icc with pc := 0x1000#32, npc := 0x1004#32 } fun t => (t.pc.toNat, t.npc.toNat, t.annul)

theorem test_branches_and_call :
    [branchAt 0x02800003 4#4, branchAt 0x32BFFFFE 4#4, branchAt 0x32BFFFFE 0#4, branchAt 0x30800004 0#4,
      branchAt 0x20800004 0#4, branchAt 0x40000010 0#4, branchAt 0x7FFFFFFF 0#4] =
      [some (0x1004, 0x100C, false), some (0x1004, 0x1008, true), some (0x1004, 0x0FF8, false),
        some (0x1004, 0x1010, true), some (0x1004, 0x1008, true), some (0x1004, 0x1040, false),
        some (0x1004, 0x0FFC, false)] := by
  decide

/-- Whether each of the sixteen branches with displacement 4 of a format-2 group is taken. -/
def takenOf (group : Nat) (s : State) : List (Option Bool) :=
  (List.range 16).map fun c => after (group + c * 2 ^ 25 + 4) s fun t => t.npc == 0x110#32

theorem test_bicc_conditions :
    [0#4, 4#4, 8#4, 2#4, 10#4, 1#4].map (fun n => (takenOf 0x00800000 (flags start n)).map (·.map Bool.toNat)) =
      [[0, 0, 0, 0, 0, 0, 0, 0, 1, 1, 1, 1, 1, 1, 1, 1], [0, 1, 1, 0, 1, 0, 0, 0, 1, 0, 0, 1, 0, 1, 1, 1],
        [0, 0, 1, 1, 0, 0, 1, 0, 1, 1, 0, 0, 1, 1, 0, 1], [0, 0, 1, 1, 0, 0, 0, 1, 1, 1, 0, 0, 1, 1, 1, 0],
        [0, 0, 0, 0, 0, 0, 1, 1, 1, 1, 1, 1, 1, 1, 0, 0],
        [0, 0, 0, 0, 1, 1, 0, 0, 1, 1, 1, 1, 0, 0, 1, 1]].map (·.map some) := by
  decide

theorem test_ticc_conditions :
    [0#4, 4#4, 10#4].map (fun n => (List.range 16).map fun c =>
        after (0x81D02005 + c * 2 ^ 25) (flags start n) fun t => (t.tt == 0x85#8 && t.pc == 0x4850#32).toNat) =
      [[0, 0, 0, 0, 0, 0, 0, 0, 1, 1, 1, 1, 1, 1, 1, 1], [0, 1, 1, 0, 1, 0, 0, 0, 1, 0, 0, 1, 0, 1, 1, 1],
        [0, 0, 0, 0, 0, 0, 1, 1, 1, 1, 1, 1, 1, 1, 0, 0]].map (·.map some) := by
  decide

theorem test_ticc_numbers :
    [after 0x91D02000 start trapSeen, after 0x91D0601F (operands 0xFFFFFFF0#32 0#32) trapSeen,
      after 0x91D02001 { start with npc := 0x300#32 } trapSeen] =
      [some [0x80, 0x4800, 0x4804, 2, 0x100, 0x104], some [0x8F, 0x48F0, 0x48F4, 2, 0x100, 0x104],
        some [0x81, 0x4810, 0x4814, 2, 0x100, 0x300]] := by
  decide

theorem test_jmpl :
    [after 0x9FC3E008 (start.writeReg 15#5 0x1000#32) fun t => (t.readReg 15#5, t.pc, t.npc, t.tt),
      after 0x81C44000 (start.writeReg 17#5 0x2002#32) fun t => (t.readReg 17#5, t.pc, t.npc, t.tt)] =
      [some (0x100#32, 0x104#32, 0x1008#32, 0#8), some (0x100#32, 0x4070#32, 0x4074#32, 7#8)] := by
  decide

/-- The state of the RETT lines of section 2.7. -/
def inHandler (psr wim l2 : Word) : State :=
  State.writeReg
    { start with pc := 0x4010#32, npc := 0x2000#32, psr := psrOfWord psr, wim := wim.extractLsb' 0 8 } 18#5 l2

/-- PSR, trap type, PC and nPC, and whether the mode is error. -/
def psrSeen (t : State) : Nat × Nat × Nat × Nat × Bool :=
  (t.psrWord.toNat, t.tt.toNat, t.pc.toNat, t.npc.toNat, t.errorPin)

theorem test_rett :
    [after 0x81CC8000 (inHandler 0x11000086#32 0#32 0x2004#32) psrSeen,
      after 0x81CC8000 (inHandler 0x110000A6#32 0#32 0x2004#32) psrSeen,
      after 0x81CC8000 (inHandler 0x11000006#32 0x80#32 0x2006#32) psrSeen,
      after 0x81CC8000 (inHandler 0x11000086#32 0x80#32 0x2004#32) psrSeen,
      after 0x81CC8000 (inHandler 0x11000086#32 0#32 0x2006#32) psrSeen] =
      [some (0x11000027, 0, 0x2000, 0x2004, false), some (0x110000C5, 2, 0x4020, 0x4024, false),
        some (0x11000085, 3, 0x4030, 0x4034, true), some (0x110000C5, 6, 0x4060, 0x4064, true),
        some (0x110000C5, 7, 0x4070, 0x4074, true)] := by
  decide

/-! #### Windows and control registers (sections 2.8 and 2.9) -/

/-- The start state in a window with WIM. -/
def inWindow (w : Window) (wim : BitVec 8) : State := { start with psr := { start.psr with cwp := w }, wim := wim }

theorem test_save :
    [after 0x9DE3BFA0 ((inWindow 1#3 0x80#8).writeReg 14#5 0x2000#32) fun t =>
        (t.psr.cwp, t.readReg 14#5, t.readReg 30#5, t.tt),
      after 0x9DE3BFA0 ((inWindow 0#3 0#8).writeReg 14#5 0x2000#32) fun t => (t.psr.cwp, t.readReg 14#5, t.readReg 30#5, t.tt),
      after 0x9DE3BFA0 ((inWindow 1#3 1#8).writeReg 14#5 0x2000#32) fun t =>
        (t.psr.cwp, t.readReg 17#5, t.readReg 30#5, t.tt)] =
      [some (0#3, 0x1FA0#32, 0x2000#32, 0#8), some (7#3, 0x1FA0#32, 0x2000#32, 0#8),
        some (0#3, 0x100#32, 0x2000#32, 5#8)] := by
  decide

theorem test_restore :
    [after 0x91EA2001 ((inWindow 7#3 2#8).writeReg 8#5 0x77#32) fun t => (t.psr.cwp, t.readReg 8#5, t.tt, t.pc),
      after 0x81E80000 (inWindow 0#3 2#8) fun t => (t.psr.cwp, t.readReg 8#5, t.tt, t.pc)] =
      [some (0#3, 0x78#32, 0#8, 0x104#32), some (7#3, 0#32, 6#8, 0x4060#32)] := by
  decide

/-- The start state with the PSR of a word. -/
def withPsr (w : Word) : State := { start with psr := psrOfWord w }

theorem test_read_control :
    [after 0x83400000 { start with y := 0x2A#32 } fun t => (t.readReg 1#5, t.tt),
      after 0x83480000 (withPsr 0x114013A2#32) fun t => (t.readReg 1#5, t.tt),
      after 0x83480000 (withPsr 0x11000023#32) fun t => (t.readReg 1#5, t.tt),
      after 0x83500000 { start with wim := 0x81#8 } fun t => (t.readReg 1#5, t.tt),
      after 0x83580000 { start with tt := 0x80#8 } fun t => (t.readReg 1#5, t.tt)] =
      [some (0x2A#32, 0#8), some (0x114013A2#32, 0#8), some (0#32, 3#8), some (0x81#32, 0#8), some (0x4800#32, 0x80#8)] := by
  decide

theorem test_write_psr :
    [0x10E5#32, 0xE8#32, 0xFFFC40E1#32, 0x00F00F41#32].map
        (fun v => after 0x81886000 (start.writeReg 1#5 v) fun t => (t.psrWord, t.tt)) =
        [some (0x110010E5#32, 0#8), some (0x110000C2#32, 2#8), some (0x11F000E1#32, 0#8), some (0x11F00F41#32, 0#8)] ∧
      [0xE8#32, 0xE1#32].map (fun v => after 0x81886000 ((withPsr 0x11000023#32).writeReg 1#5 v) fun t => t.tt) =
        [some 2#8, some 3#8] := by
  decide

theorem test_write_control :
    [after 0x81804002 (operands 0xFFFF0000#32 0xFFFF00#32) fun t => (t.y, t.wimWord, t.tbrWord),
      after 0x81904000 (operands 0xFFFFFF02#32 0#32) fun t => (t.y, t.wimWord, t.tbrWord),
      after 0x81986000 { operands 0x40001FFF#32 0#32 with tt := 5#8 } fun t => (t.y, t.wimWord, t.tbrWord),
      after 0x81902000 (withPsr 0x11000023#32) fun t => (t.y, t.wimWord, t.tbrWord)] =
      [some (0xFF00FF00#32, 0#32, 0x4000#32), some (0#32, 2#32, 0x4000#32), some (0#32, 0#32, 0x40001050#32),
        some (0#32, 0#32, 0x4030#32)] := by
  decide

/-! #### Units, traps, interrupts, Program Flow Control (sections 2.10 to 2.13) -/

theorem test_traps_by_word :
    [0x0000002A, 0x01000000, 0x81D86004, 0x00400000, 0x80480000, 0xC6806000, 0x81A00820, 0x81A80A20, 0x81A03FE0, 0xC1006002,
        0xC1304000, 0x03800002, 0x81B00000, 0x81B80000, 0xC1804000, 0xC1B04000, 0x13C00002].map
        (fun w => after w (operands 0x2000#32 0#32) fun t => (t.tt.toNat, t.pc.toNat)) =
      [(2, 0x4020), (0, 0x104), (0, 0x104), (2, 0x4020), (2, 0x4020), (2, 0x4020), (4, 0x4040), (4, 0x4040), (4, 0x4040),
        (4, 0x4040), (4, 0x4040), (4, 0x4040), (36, 0x4240), (36, 0x4240), (36, 0x4240), (36, 0x4240),
        (36, 0x4240)].map some := by
  decide

theorem test_privilege_before_unit :
    [0xC1304000, 0xC1B04000, 0xC6804140, 0xC6806000].map (fun w => after w (withPsr 0x11000023#32) fun t => t.tt) =
      [some 3#8, some 3#8, some 3#8, some 2#8] := by
  decide

/-- The start state with both units present and enabled, with registers, status and data in memory. -/
def withUnits : State :=
  { withData with
    params := { withData.params with fpPresent := true, cpPresent := true }
    psr := { withData.psr with ef := true, ec := true }
    fpu := { (Coproc.reset.writeReg 4#5 0x44444444#32).writeReg 5#5 0x55555555#32 with status := 0x1234#32 }
    cp := { (Coproc.reset.writeReg 4#5 0x66666666#32).writeReg 5#5 0x77777777#32 with status := 0x5678#32 } }

/-- The sixteen tests of one unit's condition codes, a row per value. -/
def ccTable : List (List Bool) :=
  [[0, 0, 0, 0, 0, 0, 0, 0, 1, 1, 1, 1, 1, 1, 1, 1], [0, 1, 1, 1, 1, 0, 0, 0, 1, 0, 0, 0, 0, 1, 1, 1],
    [0, 1, 1, 0, 0, 1, 1, 0, 1, 0, 0, 1, 1, 0, 0, 1], [0, 1, 0, 1, 0, 1, 0, 1, 1, 0, 1, 0, 1, 0, 1, 0]].map (·.map (· == 1))

theorem test_fbfcc_conditions :
    [0#2, 1#2, 2#2, 3#2].map (fun c => (List.range 16).map fun n => fccTest (BitVec.ofNat 4 n) c) = ccTable := by decide

theorem test_cbccc_conditions :
    [0#2, 1#2, 2#2, 3#2].map (fun c => (List.range 16).map fun n => cccTest (BitVec.ofNat 4 n) c) = ccTable := by decide

/-- FBN and FBA, CBN and CBA: the conditions that do not read the condition codes. -/
theorem test_unit_branches :
    [0x01800004, 0x11800004, 0x01C00004, 0x11C00004].map (fun w => after w withUnits fun t => t.npc) =
      [some 0x108#32, some 0x110#32, some 0x108#32, some 0x110#32] := by
  decide

theorem test_unit_loads :
    [0xC5004000, 0xC5184000, 0xC1084000].map
        (fun w => after w withUnits fun t => (t.fpu.readReg 2#5, t.fpu.readReg 3#5, t.fpu.status)) =
        [some (0x80FF7F01#32, 0#32, 0x1234#32), some (0x80FF7F01#32, 0x89ABCDEF#32, 0x1234#32),
          some (0#32, 0#32, 0x80FF7F01#32)] ∧
      [0xC5804000, 0xC5984000, 0xC1884000].map
        (fun w => after w withUnits fun t => (t.cp.readReg 2#5, t.cp.readReg 3#5, t.cp.status)) =
        [some (0x80FF7F01#32, 0#32, 0x5678#32), some (0x80FF7F01#32, 0x89ABCDEF#32, 0x5678#32),
          some (0#32, 0#32, 0x80FF7F01#32)] := by
  decide

theorem test_unit_stores :
    [0xC9204000, 0xC9384000, 0xC1284000, 0xC9A04000, 0xC9B84000, 0xC1A84000].map
        (fun w => after w withUnits dataSeen) =
      [some [0x44444444#32, 0x89ABCDEF#32, 0#32], some [0x44444444#32, 0x55555555#32, 0#32],
        some [0x1234#32, 0x89ABCDEF#32, 0#32], some [0x66666666#32, 0x89ABCDEF#32, 0#32],
        some [0x66666666#32, 0x77777777#32, 0#32], some [0x5678#32, 0x89ABCDEF#32, 0#32]] := by
  decide

theorem test_launches :
    [0x87A04822, 0x81A80A20, 0x81A03FE0].map (fun w => after w withUnits fun t => (t.fpu.queue, t.signals.length)) =
        [some ([(0x100#32, 0x87A04822#32)], 2), some ([(0x100#32, 0x81A80A20#32)], 2),
          some ([(0x100#32, 0x81A03FE0#32)], 2)] ∧
      [0x81B00000, 0x81B80000].map (fun w => after w withUnits fun t => (t.cp.queue, t.signals.length)) =
        [some ([(0x100#32, 0x81B00000#32)], 2), some ([(0x100#32, 0x81B80000#32)], 2)] ∧
      [UnitKind.fpu, .cp].map (fun k => (k.startSignal false, k.startSignal true)) = [(.fins1, .fins2), (.cins1, .cins2)] := by
  decide

/-- The registers an FPop writes and reads: FADDs f1, f2 to f3; FADDd f4, f6 to f8; FITOs f1 to f3; FCMPs f1, f2. -/
theorem test_fpop_registers :
    [0x87A04822#32, 0x91A10846#32, 0x87A01881#32, 0x81A84A22#32].map (fun w => (UnitKind.fpu.writes w, UnitKind.fpu.reads w)) =
      [(0x8#32, 0x6#32), (0x300#32, 0xF0#32), (0x8#32, 0x2#32), (0#32, 0x6#32)] := by
  decide

/-- Both units in exception mode with one entry queued. -/
def withQueues : State :=
  { withUnits with
    fpu := { withUnits.fpu with excMode := true, queue := [(0x80#32, 0x87A04822#32)] }
    cp := { withUnits.cp with excMode := true, queue := [(0x84#32, 0x81B00000#32)] } }

theorem test_queue_stores :
    [after 0xC1304000 withQueues fun t => (dataSeen t, t.fpu.queue, t.fpu.excMode),
      after 0xC1B04000 withQueues fun t => (dataSeen t, t.cp.queue, t.cp.excMode)] =
      [some ([0x80#32, 0x87A04822#32, 0#32], [], false), some ([0x84#32, 0x81B00000#32, 0#32], [], false)] := by
  decide

/-- The state of section 2.11. -/
def withIrl (irl pil : BitVec 4) (et : Bool) : State :=
  { start with
    psr := { start.psr with pil := pil, et := et }
    mem := writeSpan [] 0x09#8 0x100#32 [0x82#8, 0x00#8, 0x60#8, 0x01#8]
    inputs := { start.inputs with irl := irl } }

/-- What is seen after one step of whatever is at PC. -/
def next {α : Type} (s : State) (see : State → α) : Option α :=
  match step s with
  | .next t => some (see t)
  | _ => none

theorem test_interrupts :
    [(0, 0, true), (1, 0, true), (5, 5, true), (6, 5, true), (15, 15, true), (14, 15, true), (15, 15, false)].map
        (fun p => next (withIrl (BitVec.ofNat 4 p.1) (BitVec.ofNat 4 p.2.1) p.2.2) fun t =>
          (t.readReg 1#5, t.pc, t.psrWord)) =
      [some (1#32, 0x104#32, 0x110000A3#32), some (0#32, 0x4110#32, 0x110000C2#32), some (1#32, 0x104#32, 0x110005A3#32),
        some (0#32, 0x4160#32, 0x110005C2#32), some (0#32, 0x41F0#32, 0x11000FC2#32), some (1#32, 0x104#32, 0x11000FA3#32),
        some (1#32, 0x104#32, 0x11000F83#32)] := by
  decide

/-- The start state of section 2.12. -/
def beforeError : State :=
  { start with psr := psrOfWord 0x11501783#32, wim := 0x10#8, y := 9#32 }

theorem test_error_mode :
    [after 0 beforeError psrSeen, next { beforeError with mode := .error } psrSeen,
      next { beforeError with mode := .reset } psrSeen] =
      [some (0x115017C2, 2, 0x4020, 0x4024, true), some (0x11501783, 0, 0x100, 0x104, true),
        some (0x11501783, 0, 0, 4, false)] := by
  decide

/-- The start state with Program Flow Control on and a checksum. -/
def withFlow (checksum : Word) (skip : Bool) : State :=
  { start with params := { start.params with flowEnabled := true }, checksum := checksum, pfcSkip := skip }

/-- A constant without the tag, and constants with it. -/
theorem test_flow_control :
    [after 0x01006614 (withFlow 0x06106004#32 false) fun t => (t.tt, t.checksum, t.pfcSkip),
      after 0x01016614 (withFlow 0x06106004#32 false) fun t => (t.tt, t.checksum, t.pfcSkip),
      after 0x01016615 (withFlow 0x06106004#32 false) fun t => (t.tt, t.checksum, t.pfcSkip),
      after 0x01016615 (withFlow 0x06106004#32 true) fun t => (t.tt, t.checksum, t.pfcSkip),
      after 0x01000000 (withFlow 0x06106004#32 false) fun t => (t.tt, t.checksum, t.pfcSkip),
      after 0x84004001 (withFlow 0x82102005#32 false) fun t => (t.tt, t.checksum, t.pfcSkip)] =
      [some (0#8, 0#32, false), some (0#8, 0#32, false), some (0x66#8, 0x06106004#32, true), some (0#8, 0#32, false),
        some (0#8, 0#32, true), some (0#8, 0x06106004#32, false)] ∧
      checkWord start.params 0x6614#16 = 0x01016614#32 := by
  decide

/-! #### Parity, HWERROR, RESET errors, the checker, aliased address spaces (60_exceptions.md, 20_memory.md) -/

/-- The start state with a word at PC and wrong parity bits: of r registers and of control registers. -/
def flagged (w : Nat) (regs : List RegNum) (controls : BitVec 4) : State :=
  let s := (operands 1#32 2#32).withFetchWord 32 w
  { s with
    regParity := { s.regParity with bad := regs.foldl (fun m n => m ||| BitVec.twoPow 136 (regIndex s.psr.cwp n)) 0#136 }
    controlParity := { s.controlParity with bad := controls } }

/-- ADD of r[1], ADDX with r[1] and the PSR flagged, RDY, SAVE with WIM flagged, STD of the pair 8, 9, an ADD that reads neither. -/
theorem test_parity_of_sources :
    [next (flagged 0x86004002 [1#5] 0#4) fun t => (t.tt, t.hwerror), next (flagged 0x86404002 [1#5] 1#4) fun t => (t.tt, t.hwerror),
      next (flagged 0x83400000 [] 8#4) fun t => (t.tt, t.hwerror), next (flagged 0x9DE3BFA0 [] 2#4) fun t => (t.tt, t.hwerror),
      next (flagged 0xD0386000 [9#5] 0#4) fun t => (t.tt, t.hwerror),
      next (flagged 0x86002001 [1#5, 2#5, 3#5] 15#4) fun t => (t.tt, t.hwerror)] =
      [some (0x65#8, .untilResumed 0x100#32), some (0x64#8, .untilReset), some (0x61#8, .untilResumed 0x100#32),
        some (0x62#8, .untilResumed 0x100#32), some (0x65#8, .untilResumed 0x100#32), some (0#8, .off)] := by
  decide

/-- With an error that was detected at the boundary: Y's (0x61) and RDPSR of a flagged PSR (0x64), one of a load (0x63) and ADD of a
flagged r[1] (0x65), WIM's (0x62) before that ADD (Tables 41 and 42). IFLUSH, whose address is computed by nobody (rule R381). -/
theorem test_worst_of_events_and_sources :
    let event (e : ErrorSite) (s : State) : State := { s with inputs := { s.inputs with parityErrors := [e] } }
    [next (event .y (flagged 0x83480000 [] 1#4)) fun t => t.tt, next (event .dataBusLoad (flagged 0x86004002 [1#5] 0#4)) fun t => t.tt,
      next (event .wim (flagged 0x86004002 [1#5] 0#4)) fun t => t.tt, next (flagged 0x81D86004 [1#5] 0#4) fun t => t.tt] =
      [some 0x64#8, some 0x65#8, some 0x62#8, some 0#8] := by
  decide

/-- r[1] written, and Y. -/
theorem test_writes_mend_parity :
    [next (flagged 0x82002001 [1#5] 0#4) fun t => (t.regParity.bad, t.controlParity.bad),
      next (flagged 0x81802001 [1#5] 15#4) fun t => (t.regParity.bad, t.controlParity.bad)] =
      [some (0#136, 0#4), some (2#136, 7#4)] := by
  decide

/-- r[1] from a flip of bit 4, and of it again; r[0] has nothing to flip. -/
theorem test_upset_registers :
    [(operands 1#32 0#32).upsetReg 1 4#5, ((operands 1#32 0#32).upsetReg 1 4#5).upsetReg 1 4#5].map
        (fun t => (t.readReg 1#5, t.regParity.bad)) = [(0x11#32, 2#136), (1#32, 0#136)] ∧ start.upsetReg 0 3#5 = start :=
  ⟨by decide, rfl⟩

/-- The PSR from a flip of bit 7, and of the bit 14 that has no storage. -/
theorem test_upset_psr :
    ((start.upsetControl .psr 7#5).psr.s = false ∧ (start.upsetControl .psr 7#5).controlParity.bad = 1#4) ∧
      start.upsetControl .psr 14#5 = start := by
  have h : start.flipControl .psr 7#5 ≠ start := fun h => absurd (congrArg (fun t : State => t.psr.s) h) (by decide)
  exact ⟨by rw [State.upsetControl, if_neg h]; decide, if_pos rfl⟩

/-- HWERROR at the instruction it waits for, at another, and when only reset ends it; in error mode, and under RESET. -/
theorem test_hwerror_level :
    [(HwErrorLevel.untilResumed 0x100#32, Mode.execute, false), (.untilResumed 0x104#32, .execute, false),
        (.untilReset, .execute, false), (.untilResumed 0x100#32, .error, false), (.untilReset, .error, true)].map
        (fun p => next
          { start.withFetchWord 32 0x86004002 with
            hwerror := p.1, mode := p.2.1, inputs := { start.inputs with reset := p.2.2 } } fun t => t.hwerrorPin) =
      [some false, some true, some true, some true, some false] := by
  decide

/-- An error of the RESET coding, whether the pin is read as asserted or not. -/
theorem test_reset_fault :
    [false, true].map (fun r => next { start with inputs := { start.inputs with reset := r, resetFault := true } } fun t =>
      (t.mode, t.errorPin, t.pc)) = List.replicate 2 (some (Mode.error, true, 0x100#32)) := by
  decide

/-- The pulses of a trap, as they are driven by a master and by a checker. -/
theorem test_driven_signals :
    [false, true].map (fun c => after 0 { start with params := { start.params with checker := c } } fun t =>
        (t.drivenSignals, t.bus.map (·.driven))) =
      [some ([.inst, .flush, .inull], [true]), some ([], [false])] := by
  decide

/-- An annulled instruction's fetch is flagged on INULL (rule R96), the next one's is not. -/
theorem test_annulled_fetch_is_flagged :
    [true, false].map (fun a => next { start.withFetchWord 32 0x01000000 with annul := a } fun t => (t.signals, t.bus.length)) =
      [some ([.inst, .inull], 1), some ([.inst], 1)] := by
  decide

/-- A LD of 0x2000 after whose fetch another master writes 0x7F to 0x2003 and overwrites the LD itself (rule R113). -/
def withMaster : State :=
  let s := withData.withFetchWord 32 0xC4006000
  { s with inputs := { s.inputs with busWrites := [⟨0x0B#8, 0x2003#32, 0x7F#8⟩, ⟨0x09#8, 0x100#32, 0xFF#8⟩] } }

theorem test_other_masters :
    next withMaster (fun t => (t.readReg 2#5, t.readByte 0x09#8 0x100#32, t.tt, t.inputs.busWrites)) =
      some (0x80FF7F7F#32, 0xFF#8, 0#8, []) := by
  decide

/-- The start state at address 0 with the RESET pin and a mode. -/
def atZero (reset : Bool) (mode : Mode) : State :=
  { start with mode := mode, pc := 0#32, npc := 4#32, inputs := { start.inputs with reset := reset } }

/-- RESET asserted, RESET deasserted, and the step after it: the addresses of the requests (rule R533). -/
theorem test_first_fetch_follows_reset :
    [(true, Mode.execute), (false, .reset), (false, .execute)].map (fun p => next (atZero p.1 p.2) fun t => t.bus.map (·.addr)) =
      [some [], some [], some [0#32]] := by
  decide

/-- IMPAR of a fetch (RD alone) and of a store (DXFER, and WE and WRT); IFPAR with INST alone, with nothing, with INST and FLUSH. -/
theorem test_control_parity :
    (start.fetchRequest.impar false false, (start.writeRequest 0x0B#8 0#32 0b10#2 false false 0#32).impar true true,
        ifpar [.inst], ifpar [], ifpar [.inst, .flush, .inull]) = (false, false, false, true, true) := by
  decide

/-- LDA from ASI 0x20: undefined, a space of its own, and an alias of the shared memory. -/
theorem test_asi_alias :
    [[], [(0x20#8, 0x20#8)], [(0x20#8, 0x0B#8)]].map (fun l =>
        match (operands 0x100#32 0#32).withFetchWord 32 0xC6804402 with
        | s => next { s with platform := { s.platform with spaces := l } } fun t => (t.tt, t.readReg 3#5)) =
      [some (9#8, 0#32), some (0#8, 0#32), some (0#8, 0xC6804402#32)] := by
  decide

/-- An unassigned FPop in the queue: a store of the FSR, which waits for it, takes fp_exception. -/
theorem test_unassigned_fpop :
    (after 0xC1284000 { withUnits with fpu := { withUnits.fpu with queue := [(0x80#32, 0x81A03FE0#32)] } } fun t =>
        (t.tt, t.fpu.queue, t.fpu.excMode, t.fpu.excPending)) =
      some (8#8, [(0x80#32, 0x81A03FE0#32)], true, false) := by
  decide

/-! ### Witnesses: states and operands that meet the hypotheses of the statements, clause by clause -/

/-- The start state with a word at PC. -/
def holding (w : Nat) : State := start.withFetchWord 32 w

/-- The same in user mode. -/
def userHolding (w : Nat) : State := State.withFetchWord { start with psr := { start.psr with s := false } } 32 w

/-- The same at the last word of memory. -/
def topHolding (w : Nat) : State := State.withFetchWord { start with pc := 0xFFFFFFFC#32, npc := 0#32 } 32 w

/-- A platform that refuses the reads or the writes, or both, of an address range. -/
def denying (lo hi : Word) (reads writes : Bool) : Platform := { spaces := [], deny := [⟨0#8, 0xFF#8, lo, hi, 0xF#4, reads, writes⟩] }

/-- The state of section 2.1 with every access in some address range refused. -/
def refusing (lo hi : Word) : State := { withData with platform := denying lo hi true true }

theorem running_start : start.Running := ⟨by decide, by decide, by decide, by decide, by decide⟩

theorem running_userHolding (w : Nat) : (userHolding w).Running :=
  ⟨rfl, rfl, rfl, rfl, by simp [userHolding, State.withFetchWord, State.placeWord, start]⟩

theorem good_start : start.Good :=
  ⟨by decide, by decide, by decide, ⟨by decide, by decide⟩, ⟨by decide, by decide⟩, by decide⟩

/-- A unit with one instruction in its queue, and whether it is in exception mode. -/
def queued (u : Coproc) (excMode : Bool) : Coproc := { u with queue := [(0x80#32, 0x87A04822#32)], excMode := excMode }

/-- Both units with an instruction in the queue and no exception. -/
def withWork : State := { withUnits with fpu := queued withUnits.fpu false, cp := queued withUnits.cp false }

theorem idle_withUnits (k : UnitKind) : withUnits.UnitIdle k := by
  cases k <;> exact ⟨by decide, by decide, by decide, by decide⟩

theorem ready_withWork (k : UnitKind) : withWork.UnitReady k ∧ (withWork.unit k).queue ≠ [] := by
  cases k <;> exact ⟨⟨by decide, by decide, by decide⟩, by decide⟩

theorem excepting_withQueues (k : UnitKind) : withQueues.UnitExcepting k := by
  cases k <;> exact ⟨by decide, by decide, by decide⟩

theorem witness_DecodeEncodeAgree :
    (Instr.add 3#5 1#5 (.reg 2#5)).wellFormed = true ∧ (Instr.fpop1 3#5 1#5 0x1FF#9 2#5).wellFormed = true := by decide

theorem witness_DecodedIsWellFormed : decodeWord 0x81A03FE0#32 = .ok (.fpop1 0#5 0#5 0x1FF#9 0#5) := rfl

theorem witness_IgnoredFieldsDecideNothing :
    0#6 ∉ [52#6, 53#6, 54#6, 55#6] ∧ 63#6 ∉ [52#6, 53#6, 54#6, 55#6] ∧ 37#6 ∈ [37#6, 38#6, 39#6] ∧
      BitVec.extractLsb' 4 2 0#6 ≠ 1#2 ∧ BitVec.extractLsb' 4 2 63#6 ≠ 1#2 ∧
      48#6 ∈ [48#6, 49#6, 50#6, 51#6, 57#6, 59#6] := by
  decide

theorem witness_UnassignedWordsTrap :
    (holding 0x00400000).Fetches ∧ (holding 0x00400000).fetchStable = true ∧
      decodeWord ((holding 0x00400000).readWord (holding 0x00400000).fetchAsi (holding 0x00400000).pc) =
        .error (.unusedOp2 1#3) :=
  ⟨⟨⟨by decide, by decide, by decide, by decide, by decide⟩, by decide, by decide, by decide, by decide⟩, by decide, rfl⟩

theorem witness_StepRunsDecoded :
    (topHolding 0x86004002).Fetches ∧ (topHolding 0x86004002).fetchStable = true ∧
      decodeWord ((topHolding 0x86004002).readWord (topHolding 0x86004002).fetchAsi (topHolding 0x86004002).pc) =
        .ok (.add 3#5 1#5 (.reg 2#5)) ∧
      (topHolding 0x86004002).sourceError
        ((topHolding 0x86004002).readWord (topHolding 0x86004002).fetchAsi (topHolding 0x86004002).pc) = none ∧
      (topHolding 0x86004002).inputs.busWrites = [] ∧ Memory.wf withMaster.mem = true ∧ withMaster.inputs.busWrites ≠ [] :=
  ⟨⟨⟨by decide, by decide, by decide, by decide, by decide⟩, by decide, by decide, by decide, by decide⟩, by decide, rfl,
    by decide, by decide, by decide, by decide⟩

theorem witness_FetchSeesMemoryOrPrefetch : start.storeUndo1 = [] ∧ start.storeUndo2 = [] := by decide

theorem witness_AnnulledStep :
    (∀ s ∈ [start, withFlow 5#32 false], State.Running { s with annul := true }) ∧ start.params.flowEnabled = false ∧
      (withFlow 5#32 false).params.flowEnabled = true := by
  refine ⟨fun s hs => ?_, by decide, by decide⟩
  simp only [List.mem_cons, List.not_mem_nil, or_false] at hs
  rcases hs with rfl | rfl <;> exact ⟨rfl, rfl, rfl, rfl, by decide⟩

/-- The boundary values of the acceptance rule: level 15 at PIL 15, one level above PIL, level 1 at PIL 0; and, refused,
no level, the level of PIL, level 14 at PIL 15, and level 15 with ET = 0. -/
theorem witness_InterruptAcceptance :
    (∀ s ∈ [withIrl 15#4 15#4 true, withIrl 6#4 5#4 true, withIrl 1#4 0#4 true],
      s.Running ∧ s.annul = false ∧ s.hwError = none ∧ s.psr.et = true ∧ s.inputs.irl ≠ 0#4 ∧
        (s.inputs.irl = 15#4 ∨ s.psr.pil.toNat < s.inputs.irl.toNat)) ∧
      ∀ s ∈ [withIrl 0#4 0#4 true, withIrl 5#4 5#4 true, withIrl 14#4 15#4 true, withIrl 15#4 15#4 false],
        s.Running ∧ s.annul = false ∧ s.hwError = none ∧
          ¬(s.psr.et = true ∧ s.inputs.irl ≠ 0#4 ∧ (s.inputs.irl = 15#4 ∨ s.psr.pil.toNat < s.inputs.irl.toNat)) ∧
          s.refuses s.fetchRequest = false ∧ s.sourceError s.fetchWord = none ∧
          decodeWord s.fetchWord = .ok (.add 1#5 1#5 (.imm 1#13)) := by
  refine ⟨fun s hs => ?_, fun s hs => ?_⟩ <;> simp only [List.mem_cons, List.not_mem_nil, or_false] at hs
  · rcases hs with rfl | rfl | rfl <;> exact ⟨⟨rfl, rfl, rfl, rfl, by decide⟩, by decide⟩
  · rcases hs with rfl | rfl | rfl | rfl <;> exact ⟨⟨rfl, rfl, rfl, rfl, by decide⟩, by decide, by decide, by decide, by decide, by decide, rfl⟩

/-- Parity errors of two priorities. -/
def withErrors : State := { start with inputs := { start.inputs with parityErrors := [.dataBusLoad, .psr, .y] } }

/-- An error of a load at the boundary and the register that an ADD reads flagged. -/
def withErrorAndFlag : State :=
  let s := flagged 0x86004002 [1#5] 0#4
  { s with inputs := { s.inputs with parityErrors := [.dataBusLoad] } }

/-- Errors at a boundary, alone and with a flagged register of the instruction at PC; and a wrong parity bit of the first and the
last physical register that has one, r[1] and the r[31] of window 7, read by an ADD, and of the PSR and of Y, read by RDPSR and RDY. -/
theorem witness_HardwareErrorTaken :
    (∀ s ∈ [withErrors, withErrorAndFlag], s.Running ∧ s.annul = false ∧ .dataBusLoad ∈ s.inputs.parityErrors ∧
        checksSite s.params .dataBusLoad = true) ∧
      (withErrorAndFlag.refuses withErrorAndFlag.fetchRequest = false ∧ withErrorAndFlag.fetchWord = 0x86004002#32 ∧
        withErrorAndFlag.regParity.bad.getLsbD (regIndex withErrorAndFlag.psr.cwp 1#5) = true ∧ 1#5 ≠ 0#5) ∧
      (∀ s ∈ [flagged 0x86004002 [1#5] 0#4, flagged 0x83480000 [] 1#4, flagged 0x83400000 [] 8#4], s.Fetches ∧ s.fetchStable = true) ∧
      (decodeWord 0x86004002#32 = .ok (.add 3#5 1#5 (.reg 2#5)) ∧ 1#5 ∈ sourceRegs 0x86004002#32 ∧
        (flagged 0x86004002 [1#5] 0#4).regParity.bad.getLsbD (regIndex 3#3 1#5) = true ∧ 31#5 ∈ sourceRegs 0x8607E000#32 ∧
        (135 : Nat) ∈ [0#3, 1#3, 2#3, 3#3, 4#3, 5#3, 6#3, 7#3].map (fun w => regIndex w 23#5)) ∧
      (decodeWord 0x83480000#32 = .ok (.rdpsr 1#5) ∧ .psr ∈ sourceControls 0x83480000#32 ∧ ControlReg.psr.index = 0 ∧
        decodeWord 0x83400000#32 = .ok (.rdy 1#5) ∧ .y ∈ sourceControls 0x83400000#32 ∧ ControlReg.y.index = 3) := by
  refine ⟨fun s hs => ?_, by decide, fun s hs => ?_, ⟨rfl, by decide⟩, ⟨rfl, by decide, rfl, rfl, by decide⟩⟩ <;>
    simp only [List.mem_cons, List.not_mem_nil, or_false] at hs
  · rcases hs with rfl | rfl <;> exact ⟨⟨rfl, rfl, rfl, rfl, by decide⟩, rfl, by decide, rfl⟩
  · rcases hs with rfl | rfl | rfl <;> exact ⟨⟨⟨rfl, rfl, rfl, rfl, by decide⟩, by decide, by decide, by decide, by decide⟩, by decide⟩

/-- The start state with the pins RESET and HALT and a mode. -/
def withPins (reset halt : Bool) (mode : Mode) : State :=
  { start with mode := mode, inputs := { start.inputs with reset := reset, halt := halt } }

theorem witness_ErrorModeStays :
    ∀ p ∈ [(false, false), (false, true), (true, false)], (withPins p.1 p.2 .error).mode = .error ∧
      (withPins p.1 p.2 .error).inputs.reset = p.1 ∧ (withPins p.1 p.2 .error).inputs.halt = p.2 ∧
      (withPins p.1 p.2 .error).inputs.resetFault = false := by
  decide

theorem witness_HaltFreezes : (withPins true true .execute).inputs.halt = true := rfl

/-- The start state with an error of the RESET coding. -/
def withResetFault : State := { start with inputs := { start.inputs with resetFault := true } }

theorem witness_ResetSequence :
    (withPins true false .execute).inputs.halt = false ∧ (withPins true false .execute).inputs.resetFault = false ∧
      (withPins true false .execute).inputs.reset = true ∧ withResetFault.inputs.halt = false ∧
      withResetFault.inputs.resetFault = true ∧ (withPins false false .reset).inputs.halt = false ∧
      (withPins false false .reset).inputs.resetFault = false ∧ (withPins false false .reset).inputs.reset = false ∧
      (withPins false false .reset).mode = .reset := by
  decide

theorem witness_TrapEntry :
    State.reset.psr.et = false ∧ start.psr.et = true ∧ start.mode = .execute := by decide

theorem witness_TrapTable : 1#4 ≠ 0#4 ∧ 15#4 ≠ 0#4 := by decide

/-- Whether a platform refuses the requests of one size at an address: the read of a load, the first read of a doubleword, the read
of an atomic, the write of a store, the first write of a doubleword, the write of an atomic. -/
def refusals (s : State) (asi : Asi) (ea : Word) (size : BitVec 2) : List Bool :=
  [s.refuses (s.readRequest asi ea size false false), s.refuses (s.readRequest asi ea size false true),
    s.refuses (s.readRequest asi ea size true true), s.refuses (s.writeRequest asi ea size false false (s.readReg 3#5)),
    s.refuses (s.writeRequest asi ea size false true (s.readReg 2#5)),
    s.refuses (s.writeRequest asi ea size true false (s.readReg 3#5))]

/-- The fetch refused; at ea = 0x2000, aligned for every size, every request refused, under the normal ASI and another; and with the
writes alone refused, the read of an atomic answered and its write refused. -/
theorem witness_RefusedAccessesTrap :
    ((refusing 0x100#32 0x100#32).Running ∧ (refusing 0x100#32 0x100#32).annul = false ∧
        (refusing 0x100#32 0x100#32).hwError = none ∧ (refusing 0x100#32 0x100#32).interruptPending = false ∧
        (refusing 0x100#32 0x100#32).refuses (refusing 0x100#32 0x100#32).fetchRequest = true) ∧
      (withData.psr.s = true ∧ withData.readReg 1#5 + withData.op2val (.imm 0#13) = 0x2000#32 ∧
        withData.readReg 1#5 + withData.readReg 0#5 = 0x2000#32 ∧
        [0#32, 1#32, 3#32, 7#32].map (0x2000#32 &&& ·) = List.replicate 4 0#32) ∧
      ([0b00#2, 0b01#2, 0b10#2, 0b11#2].map (refusals (refusing 0x2000#32 0x2007#32) 0x0B#8 0x2000#32) =
        List.replicate 4 (List.replicate 6 true)) ∧
      ([0b00#2, 0b01#2, 0b10#2, 0b11#2].map (refusals (refusing 0x2000#32 0x2007#32) 0x08#8 0x2000#32) =
        List.replicate 4 (List.replicate 6 true)) ∧
      [0x0B#8, 0x08#8].map (fun asi =>
          refusals { withData with platform := denying 0x2000#32 0x2007#32 false true } asi 0x2000#32 0b10#2) =
        List.replicate 2 [false, false, false, true, true, true] :=
  ⟨⟨⟨rfl, rfl, rfl, rfl, by decide⟩, by decide⟩, by decide, by decide, by decide, by decide⟩

/-- Each mask at the smallest and the largest misaligned offset, in normal, alternate and unit form; and a byte load where the
trap type is already 7. -/
theorem witness_MisalignedAccessesTrap :
    (withUnits.readReg 1#5 + withUnits.op2val (.imm 1#13) &&& 1#32 = 1#32 ∧
        withUnits.readReg 1#5 + withUnits.op2val (.imm 3#13) &&& 3#32 = 3#32 ∧
        withUnits.readReg 1#5 + withUnits.op2val (.imm 4#13) &&& 7#32 = 4#32 ∧
        withUnits.readReg 1#5 + withUnits.op2val (.imm 7#13) &&& 7#32 = 7#32) ∧
      (withUnits.psr.s = true ∧ withUnits.unitEnabled .fpu = true ∧ withUnits.unitEnabled .cp = true) ∧
      ((operands 0x2000#32 7#32).psr.s = true ∧
        (operands 0x2000#32 7#32).readReg 1#5 + (operands 0x2000#32 7#32).readReg 2#5 = 0x2007#32 ∧
        0x2007#32 &&& 1#32 = 1#32 ∧ 0x2007#32 &&& 3#32 = 3#32 ∧ 0x2007#32 &&& 7#32 = 7#32) ∧
      ∃ t, exec (.ldub 3#5 1#5 (.imm 1#13)) { withData with tt := 7#8 } = .next t ∧ t.tt = 0x07#8 :=
  ⟨by decide, by decide, by decide, _, rfl, by decide⟩

/-- A step; the environment while the machine is halted: an upset, a new pin level, CMODE; a step in error mode. -/
theorem witness_StepKeepsGood :
    start.Good ∧ (∃ t, step start = .next t) ∧
      (let s := withPins false true .execute;
        s.Good ∧ s.Environment
          { s.upsetReg 1 0#5 with params := { s.params with checker := true }, inputs := { s.inputs with irl := 5#4 } }) ∧
      (let s := { start with mode := .error, psr := { start.psr with et := false } };
        s.ErrorQuiet ∧ s.inputs.resetFault = false ∧ ∃ t, step s = .next t) :=
  ⟨good_start, ⟨_, rfl⟩,
    ⟨⟨by decide, by decide, by decide, ⟨by decide, by decide⟩, ⟨by decide, by decide⟩, by decide⟩, by decide, .inl rfl, rfl⟩,
    ⟨fun _ => ⟨rfl, rfl⟩, rfl, _, rfl⟩⟩

theorem witness_GoodMachineGoesOn : start.Good := good_start

/-- A user program's ADD goes on, its UNIMP traps. -/
theorem witness_UserModeIsConfined :
    ∀ w ∈ [0x86004002, 0x00000000], (userHolding w).Running ∧ (userHolding w).psr.s = false ∧
      ∃ t, step (userHolding w) = .next t := by
  intro w hw
  refine ⟨running_userHolding w, rfl, ?_⟩
  simp only [List.mem_cons, List.not_mem_nil, or_false] at hw
  rcases hw with rfl | rfl <;> exact ⟨_, rfl⟩

theorem witness_OnlyTrapsWriteTt : start.Running ∧ ∃ t, step start = .next t := ⟨running_start, _, rfl⟩

/-- RESTORE in user mode. -/
theorem witness_UserWindowsAreGuarded :
    (userHolding 0x81E80000).Running ∧ (userHolding 0x81E80000).psr.s = false ∧
      ∃ t, step (userHolding 0x81E80000) = .next t ∧ ¬(userHolding 0x81E80000).EnteredTrap t ∧
        t.psr.cwp ≠ (userHolding 0x81E80000).psr.cwp :=
  ⟨running_userHolding _, rfl, _, rfl, fun h => absurd h.et (by decide), by decide⟩

theorem witness_PrivilegedInstructions :
    (userHolding 0).psr.s = false ∧ Instr.rdpsr 3#5 ∈ privilegedForms 3#5 1#5 2#5 (.reg 2#5) 0x0A#8 ∧
      (∀ rd rs1 rs2 op2 asi, Instr.add 3#5 1#5 (.reg 2#5) ∉ privilegedForms rd rs1 rs2 op2 asi) ∧
      (∀ rs1 op2, Instr.add 3#5 1#5 (.reg 2#5) ≠ .wrpsr rs1 op2) ∧
      (∀ rs1 op2, Instr.add 3#5 1#5 (.reg 2#5) ≠ .rett rs1 op2) ∧
      ∃ t, exec (.add 3#5 1#5 (.reg 2#5)) { userHolding 0 with tt := 3#8 } = .next t ∧ t.tt = 0x03#8 := by
  refine ⟨rfl, by decide, ?_, ?_, ?_, _, rfl, by decide⟩
  · intro rd rs1 rs2 op2 asi
    simp [privilegedForms]
  · simp
  · simp

theorem witness_RegisterZero :
    (∃ t, exec (.add 0#5 1#5 (.reg 2#5)) withData = .next t) ∧
      (withData.readReg 1#5 + withData.op2val (.reg 2#5)) &&& 3#32 = 0#32 ∧
      withData.refuses
        (withData.readRequest withData.dataAsi (withData.readReg 1#5 + withData.op2val (.reg 2#5)) 0b10#2 false false) =
          false ∧
      withData.afterCondBranch = false :=
  ⟨⟨_, rfl⟩, by decide, by decide, by decide⟩

theorem witness_WindowsOverlap : (∀ n ∈ [24#5, 31#5], 24 ≤ n.toNat) ∧ ∀ n ∈ [0#5, 7#5], n.toNat < 8 := by decide

theorem witness_SethiResult : (3#5 ≠ 0#5 ∨ (withFlow 0#32 false).params.flowEnabled = false) ∧
    (0#5 ≠ 0#5 ∨ start.params.flowEnabled = false) := by
  decide

theorem witness_FlowCheck :
    (withFlow 0x06106004#32 false).params.flowEnabled = true ∧ (withFlow 0x06106004#32 false).params.pfcTag6 ≠ 0#6 ∧
      0x6614#22 ≠ 0#22 ∧
      (withFlow 0x06106004#32 true).pfcSkip = true ∧
      (BitVec.extractLsb' 16 16 0x06106004#32 ^^^ BitVec.extractLsb' 0 16 0x06106004#32) =
        BitVec.extractLsb' 0 16 0x6614#22 ∧
      (withFlow 0x06106004#32 false).pfcSkip = false ∧
      ¬(BitVec.extractLsb' 16 16 0x06106004#32 ^^^ BitVec.extractLsb' 0 16 0x06106004#32) =
        BitVec.extractLsb' 0 16 0x6615#22 := by
  decide

theorem witness_SaveRestore :
    (inWindow 0#3 0x7F#8).wim.getLsbD ((inWindow 0#3 0x7F#8).psr.cwp - 1#3).toNat = false ∧
      (inWindow 0#3 0x80#8).wim.getLsbD ((inWindow 0#3 0x80#8).psr.cwp - 1#3).toNat = true ∧
      (inWindow 7#3 0xFE#8).wim.getLsbD ((inWindow 7#3 0xFE#8).psr.cwp + 1#3).toNat = false ∧
      (inWindow 7#3 0x01#8).wim.getLsbD ((inWindow 7#3 0x01#8).psr.cwp + 1#3).toNat = true := by
  decide

/-- The FPU idle, with an FPop in its queue, and in exception mode. -/
theorem witness_FccBranches :
    withUnits.fiparFails = false ∧ withUnits.UnitIdle .fpu ∧ withWork.fiparFails = false ∧ withWork.UnitReady .fpu ∧
      withQueues.fiparFails = false ∧ withQueues.UnitExcepting .fpu :=
  ⟨by decide, idle_withUnits .fpu, by decide, (ready_withWork .fpu).1, by decide, excepting_withQueues .fpu⟩

theorem witness_CccBranches : withUnits.UnitIdle .cp ∧ withWork.UnitReady .cp ∧ withQueues.UnitExcepting .cp :=
  ⟨idle_withUnits .cp, (ready_withWork .cp).1, excepting_withQueues .cp⟩

theorem witness_CallAndJmpl :
    (withData.readReg 1#5 + withData.op2val (.imm 8#13)) &&& 3#32 = 0#32 ∧
      (withData.readReg 1#5 + withData.op2val (.imm 1#13)) &&& 3#32 ≠ 0#32 ∧
      (withData.readReg 1#5 + withData.op2val (.imm 3#13)) &&& 3#32 ≠ 0#32 := by
  decide

/-- The conditions of RETT in one state: ET, S, an invalid window above, and the low bits of the target. -/
def rettSeen (psr wim l2 : Word) : Bool × Bool × Bool × Word :=
  let s := inHandler psr wim l2
  (s.psr.et, s.psr.s, s.wim.getLsbD (s.psr.cwp + 1#3).toNat, (s.readReg 18#5 + s.op2val (.reg 0#5)) &&& 3#32)

theorem witness_RettResult :
    rettSeen 0x11000086#32 0x7F#32 0x2004#32 = (false, true, false, 0#32) ∧
      rettSeen 0x110000A6#32 0#32 0x2004#32 = (true, true, false, 0#32) ∧
      rettSeen 0x11000006#32 0#32 0x2004#32 = (false, false, false, 0#32) ∧
      rettSeen 0x11000086#32 0x80#32 0x2004#32 = (false, true, true, 0#32) ∧
      rettSeen 0x11000086#32 0x7F#32 0x2005#32 = (false, true, false, 1#32) ∧
      rettSeen 0x11000086#32 0x7F#32 0x2007#32 = (false, true, false, 3#32) := by
  decide

theorem witness_ReadControl : start.psr.s = true := by decide

theorem witness_WriteControl : start.psr.s = true := by decide

theorem witness_WritePsr :
    start.psr.s = true ∧ (start.readReg 0#5 ^^^ start.op2val (.imm 7#13)).toNat % 32 < 8 ∧
      8 ≤ (start.readReg 0#5 ^^^ start.op2val (.imm 8#13)).toNat % 32 ∧
      8 ≤ (start.readReg 0#5 ^^^ start.op2val (.imm 31#13)).toNat % 32 := by
  decide

theorem witness_OperateLaunches :
    (∀ i ∈ [Instr.fpop1 3#5 1#5 0x1FF#9 2#5, .fadds 3#5 1#5 2#5, .fcmpex 3#5 1#5 2#5],
        i.wellFormed = true ∧ fieldOp (encode i) = 2#2 ∧ UnitKind.fpu.ownsWord (encode i) = true) ∧
      (∀ i ∈ [Instr.cpop1 3#5 1#5 0x155#9 2#5, .cpop2 3#5 1#5 0x155#9 2#5],
        i.wellFormed = true ∧ fieldOp (encode i) = 2#2 ∧ UnitKind.cp.ownsWord (encode i) = true) ∧
      ∀ k, withUnits.UnitIdle k ∧ withWork.UnitReady k ∧ withQueues.UnitExcepting k :=
  ⟨by decide, by decide, fun k => ⟨idle_withUnits k, (ready_withWork k).1, excepting_withQueues k⟩⟩

/-- In supervisor mode a queue store, in user mode the others. -/
theorem witness_DisabledUnitTraps :
    (∀ i ∈ [Instr.fadds 3#5 1#5 2#5, .fbne false 7#22, .stdfq 0#5 1#5 (.reg 2#5)],
        UnitKind.fpu.ownsWord (encode i) = true) ∧
      (∀ i ∈ [Instr.cpop1 3#5 1#5 0x155#9 2#5, .cb0 false 7#22, .ldcsr 0#5 1#5 (.reg 2#5)],
        UnitKind.cp.ownsWord (encode i) = true) ∧
      (∀ k ∈ [UnitKind.fpu, .cp], start.unitEnabled k = false ∧ (userHolding 0).unitEnabled k = false) ∧ start.psr.s = true ∧
      (userHolding 0).psr.s = false ∧
      ∀ rd rs1 op2, Instr.fbne false 7#22 ≠ .stdfq rd rs1 op2 ∧ Instr.fbne false 7#22 ≠ .stdcq rd rs1 op2 :=
  ⟨by decide, by decide, by decide, by decide, rfl, fun _ _ _ => ⟨nofun, nofun⟩⟩

/-- Both units enabled with nothing pending, FIPAR wrong. -/
def withFipar : State := { withUnits with inputs := { start.inputs with fiparError := true } }

/-- Both units with an exception pending. -/
def withPending (fipar : Bool) : State :=
  { withUnits with
    fpu := { withUnits.fpu with excPending := true, queue := [(0x80#32, 0x87A04822#32)] }
    cp := { withUnits.cp with excPending := true, queue := [(0x84#32, 0x81B00000#32)] }
    inputs := { start.inputs with fiparError := fipar } }

theorem witness_PendingExceptionTraps :
    (∀ k ∈ [UnitKind.fpu, .cp], (withPending false).unitEnabled k = true ∧ ((withPending false).unit k).excPending = true) ∧
      (∀ p ∈ [(UnitKind.fpu, Instr.fadds 3#5 1#5 2#5, Instr.fbne false 7#22),
          (.cp, .cpop1 3#5 1#5 0x155#9 2#5, .cb0 false 7#22)],
        p.1.ownsWord (encode p.2.1) = true ∧ fieldOp (encode p.2.1) = 2#2 ∧ p.1.ownsWord (encode p.2.2) = true ∧
          fieldOp (encode p.2.2) = 0#2) ∧
      (withPending false).fiparFails = false ∧
      ((withPending false).readReg 1#5 + (withPending false).op2val (.imm 4#13)) &&& 3#32 = 0#32 ∧
      ((withPending false).readReg 1#5 + (withPending false).op2val (.imm 8#13)) &&& 7#32 = 0#32 ∧
      (withPending false).psr.s = true ∧ withFipar.fpu.excPending = false ∧
      (∀ s ∈ [withFipar, withPending true, { start with inputs := withFipar.inputs }], s.fiparFails = true) ∧
      fpWord (encode (.fbne false 7#22)) = true := by
  decide

/-- The units idle, with work, and in exception mode; every word answered, the first refused, the second refused. -/
theorem witness_UnitLoads :
    (∀ k, withUnits.UnitIdle k ∧ withWork.UnitReady k ∧ withQueues.UnitExcepting k) ∧
      (∀ s ∈ [withUnits, withWork, withQueues], s.readReg 1#5 + s.op2val (.imm 8#13) = 0x2008#32) ∧ 0x2008#32 &&& 7#32 = 0#32 ∧
      [withUnits, withQueues].map (fun s => [0#32, 0x2008#32, 0x200C#32].map fun a =>
          let t := { s with platform := denying a a true true }
          (t.refuses (t.readRequest t.dataAsi 0x2008#32 0b11#2 false true),
            t.refuses (t.readRequest t.dataAsi (0x2008#32 + 4#32) 0b11#2 false false))) =
        List.replicate 2 [(false, false), (true, false), (false, true)] :=
  ⟨fun k => ⟨idle_withUnits k, (ready_withWork k).1, excepting_withQueues k⟩, by decide, by decide, by decide⟩

/-- As for the loads; without a denied window every word is answered, whatever the data. -/
theorem witness_UnitStores :
    (∀ k, withUnits.UnitIdle k ∧ withWork.UnitReady k ∧ withQueues.UnitExcepting k) ∧
      (∀ s ∈ [withUnits, withWork, withQueues], Memory.wf s.mem = true ∧ s.platform.deny = [] ∧ s.dataAsi = 0x0B#8 ∧
        s.readReg 1#5 + s.op2val (.imm 8#13) = 0x2008#32) ∧ 0x2008#32 &&& 3#32 = 0#32 ∧ 0x2008#32 &&& 7#32 = 0#32 ∧
      (∀ a v, withQueues.refuses (withQueues.writeRequest 0x0B#8 a 0b11#2 false true v) = false) ∧
      [UnitKind.fpu, .cp].map (fun k => [0x2008#32, 0x200C#32].map fun a =>
          let s := { withUnits with platform := denying a a false true }
          (s.refuses (s.writeRequest s.dataAsi 0x2008#32 0b10#2 false false (s.unit k).status),
            s.refuses (s.writeRequest s.dataAsi 0x2008#32 0b11#2 false true ((s.unit k).readReg 4#5)),
            s.refuses (s.writeRequest s.dataAsi (0x2008#32 + 4#32) 0b11#2 false false ((s.unit k).readReg 5#5)))) =
        List.replicate 2 [(true, true, false), (false, false, true)] :=
  ⟨fun k => ⟨idle_withUnits k, (ready_withWork k).1, excepting_withQueues k⟩, by decide, by decide, by decide,
    fun _ _ => rfl, by decide⟩

/-- The units with work and a platform that refuses the writes of one word. -/
def refusedWork (a : Word) : State := { withWork with platform := denying a a false true }

/-- A refusal does not depend on the data. -/
theorem refuses_any_data (s : State) (asi : Asi) (ea : Word) (size : BitVec 2) (ldsto lock : Bool) (v : Word) :
    s.refuses (s.writeRequest asi ea size ldsto lock v) = s.refuses (s.writeRequest asi ea size ldsto lock 0#32) := rfl

/-- Exception mode with one entry and work in the queue, every word answered, the first refused, the second refused; an empty
queue. -/
theorem witness_QueueStores :
    (∀ k, withQueues.UnitExcepting k ∧ withWork.UnitReady k ∧ withUnits.UnitReady k ∧ (withUnits.unit k).queue = [] ∧
        ∀ a, (refusedWork a).UnitReady k) ∧
      (∀ s ∈ [withUnits, withWork, withQueues, refusedWork 0x2008#32, refusedWork 0x200C#32], Memory.wf s.mem = true ∧
        s.psr.s = true ∧ s.readReg 1#5 + s.op2val (.imm 8#13) = 0x2008#32) ∧
      0x2008#32 &&& 7#32 = 0#32 ∧ (∀ s ∈ [withUnits, withWork, withQueues], s.platform.deny = []) ∧
      (∀ v, (refusedWork 0x2008#32).refuses ((refusedWork 0x2008#32).writeRequest 0x0B#8 0x2008#32 0b11#2 false true v) = true) ∧
      (∀ v, (refusedWork 0x200C#32).refuses ((refusedWork 0x200C#32).writeRequest 0x0B#8 0x2008#32 0b11#2 false true v) = false ∧
        (refusedWork 0x200C#32).refuses
          ((refusedWork 0x200C#32).writeRequest 0x0B#8 (0x2008#32 + 4#32) 0b11#2 false false v) = true) ∧
      (withQueues.fpu.queue = [(0x80#32, 0x87A04822#32)] ∧ withQueues.cp.queue = [(0x84#32, 0x81B00000#32)]) ∧
      [(0x80#32, 0x87A04822#32), (0x84#32, 0x81B00000#32)].map (fun e => [0x2008#32, 0x200C#32].map fun a =>
          let s := { withQueues with platform := denying a a false true }
          (s.refuses (s.writeRequest s.dataAsi 0x2008#32 0b11#2 false true e.1),
            s.refuses (s.writeRequest s.dataAsi (0x2008#32 + 4#32) 0b11#2 false false e.2))) =
        List.replicate 2 [(true, false), (false, true)] :=
  ⟨fun k => ⟨excepting_withQueues k, (ready_withWork k).1,
      ⟨(idle_withUnits k).enabled, (idle_withUnits k).pending, (idle_withUnits k).exceptionMode⟩, (idle_withUnits k).queue,
      fun _ => by cases k <;> exact ⟨by rfl, by rfl, by rfl⟩⟩,
    by decide, by decide, by decide,
    fun v => (refuses_any_data _ _ _ _ _ _ v).trans (by decide),
    fun v => ⟨(refuses_any_data _ _ _ _ _ _ v).trans (by decide), (refuses_any_data _ _ _ _ _ _ v).trans (by decide)⟩,
    ⟨rfl, rfl⟩, by decide⟩

/-- The state of section 2.1 with r[1] + r[2] the last word of memory. -/
def topData : State := withData.writeReg 2#5 0xFFFFDFFC#32

/-- At the last place of memory of each size, in normal and alternate form. -/
theorem witness_Loads :
    topData.psr.s = true ∧ topData.readReg 1#5 + topData.op2val (.reg 2#5) = 0xFFFFFFFC#32 ∧
      topData.readReg 1#5 + topData.readReg 2#5 = 0xFFFFFFFC#32 ∧ 0xFFFFFFFC#32 &&& 3#32 = 0#32 ∧
      0xFFFFFFFC#32 &&& 1#32 = 0#32 ∧ 0xFFFFFFFC#32 &&& 0#32 = 0#32 ∧
      ∀ size ∈ [0b10#2, 0b01#2, 0b00#2],
        topData.refuses (topData.readRequest 0x0B#8 0xFFFFFFFC#32 size false false) = false ∧
        topData.refuses (topData.readRequest 0x08#8 0xFFFFFFFC#32 size false false) = false :=
  ⟨by decide, by decide, by decide, by decide, by decide, by decide, by decide⟩

theorem witness_Stores :
    Memory.wf topData.mem = true ∧ topData.psr.s = true ∧ topData.readReg 3#5 = 0xA1B2C3D4#32 ∧
      topData.readReg 1#5 + topData.op2val (.reg 2#5) = 0xFFFFFFFC#32 ∧
      topData.readReg 1#5 + topData.readReg 2#5 = 0xFFFFFFFC#32 ∧
      (∀ asi ∈ [0x0B#8, 0x08#8],
        topData.refuses (topData.writeRequest asi 0xFFFFFFFC#32 0b10#2 false false 0xA1B2C3D4#32) = false) ∧
      (∀ asi ∈ [0x0B#8, 0x08#8],
        topData.refuses (topData.writeRequest asi 0xFFFFFFFC#32 0b01#2 false false 0xC3D4C3D4#32) = false) ∧
      ∀ asi ∈ [0x0B#8, 0x08#8],
        topData.refuses (topData.writeRequest asi 0xFFFFFFFC#32 0b00#2 false false 0xD4D4D4D4#32) = false :=
  ⟨by decide, by decide, by decide, by decide, by decide, by decide, by decide, by decide⟩

/-- Both words answered, and the second one refused, in normal and alternate form. -/
theorem witness_DoubleLoads :
    ∀ p ∈ [(withData, false), (refusing 0x200C#32 0x200C#32, true)],
      p.1.psr.s = true ∧ p.1.readReg 1#5 + p.1.op2val (.imm 8#13) = 0x2008#32 ∧
        (p.1.writeReg 2#5 8#32).readReg 1#5 + (p.1.writeReg 2#5 8#32).readReg 2#5 = 0x2008#32 ∧
        0x2008#32 &&& 7#32 = 0#32 ∧
        ∀ asi ∈ [0x0B#8, 0x0A#8], p.1.refuses (p.1.readRequest asi 0x2008#32 0b11#2 false true) = false ∧
          p.1.refuses (p.1.readRequest asi (0x2008#32 + 4#32) 0b11#2 false false) = p.2 := by
  decide

theorem witness_DoubleStores :
    ∀ p ∈ [(withData, false), (refusing 0x200C#32 0x200C#32, true)],
      Memory.wf p.1.mem = true ∧ p.1.psr.s = true ∧ p.1.readReg 1#5 + p.1.op2val (.imm 8#13) = 0x2008#32 ∧
        (p.1.writeReg 2#5 8#32).readReg 1#5 + (p.1.writeReg 2#5 8#32).readReg 2#5 = 0x2008#32 ∧
        p.1.readReg 8#5 = 0x33333333#32 ∧ p.1.readReg 9#5 = 0x22222222#32 ∧
        ∀ asi ∈ [0x0B#8, 0x0A#8],
          p.1.refuses (p.1.writeRequest asi 0x2008#32 0b11#2 false true 0x33333333#32) = false ∧
            p.1.refuses (p.1.writeRequest asi (0x2008#32 + 4#32) 0b11#2 false false 0x22222222#32) = p.2 := by
  decide

theorem witness_Atomics :
    Memory.wf withData.mem = true ∧ withData.psr.s = true ∧ withData.readReg 3#5 = 0xA1B2C3D4#32 ∧
      withData.readReg 1#5 + withData.op2val (.imm 4#13) = 0x2004#32 ∧
      withData.readReg 1#5 + withData.readReg 2#5 = 0x2004#32 ∧ 0x2004#32 &&& 3#32 = 0#32 ∧
      (∀ asi ∈ [0x0B#8, 0x0A#8], withData.refuses (withData.readRequest asi 0x2004#32 0b00#2 true true) = false ∧
        withData.refuses (withData.writeRequest asi 0x2004#32 0b00#2 true false 0xFFFFFFFF#32) = false) ∧
      ∀ asi ∈ [0x0B#8, 0x0A#8], withData.refuses (withData.readRequest asi 0x2004#32 0b10#2 true true) = false ∧
        withData.refuses (withData.writeRequest asi 0x2004#32 0b10#2 true false 0xA1B2C3D4#32) = false :=
  ⟨by decide, by decide, by decide, by decide, by decide, by decide, by decide, by decide⟩

/-- The largest sum without overflow, the smallest with it, the smallest tag, and the same for the differences. -/
theorem witness_TaggedResults :
    let overflow (a b : Word) (exact : Int) :=
      a.extractLsb' 0 2 ≠ 0#2 ∨ b.extractLsb' 0 2 ≠ 0#2 ∨ exact < -2 ^ 31 ∨ 2 ^ 31 ≤ exact
    ¬overflow 0x7FFFFFF8#32 4#32 ((0x7FFFFFF8#32 : Word).toInt + (4#32 : Word).toInt) ∧
      overflow 0x7FFFFFFC#32 4#32 ((0x7FFFFFFC#32 : Word).toInt + (4#32 : Word).toInt) ∧
      overflow 1#32 4#32 ((1#32 : Word).toInt + (4#32 : Word).toInt) ∧
      ¬overflow 0x80000004#32 4#32 ((0x80000004#32 : Word).toInt - (4#32 : Word).toInt) ∧
      overflow 0x80000000#32 4#32 ((0x80000000#32 : Word).toInt - (4#32 : Word).toInt) := by
  decide

theorem witness_UnimpIflush :
    start.params.iftAsserted = false ∧
      ({ start with params := { start.params with iftAsserted := true } } : State).params.iftAsserted = true := by
  decide

/-- The machine right after reset, every register unwritten, with a wrong parity bit on one of them: no upset has come; an ADD of
r[0] and a constant reads none of them. -/
theorem witness_ParityOfRegisters :
    (let s := flagged 0x82002001 [1#5, 31#5] 15#4;
      let t := { s with regParity := { s.regParity with unwritten := BitVec.allOnes 136 } };
      t.ParityFaultFree ∧ ∃ t', step t = .next t') ∧
      start.readsUnwritten 0x82002001#32 = false ∧ start.readsUnwritten 0x86004002#32 = true ∧ 1#5 ≠ 0#5 ∧ 31#5 ≠ 0#5 := by
  refine ⟨⟨⟨fun i h => ?_, fun i h => ?_⟩, _, rfl⟩, by decide⟩
  · show (BitVec.allOnes 136).getLsbD i = true
    rw [BitVec.getLsbD_allOnes]
    exact decide_eq_true (BitVec.lt_of_getLsbD h)
  · have hi := BitVec.lt_of_getLsbD h
    interval_cases i <;> rfl

end Sys2Proof.Tests
end

section
/-! Register r[0] (rule R23): it reads as 0, a write of it is no write at all, and the accesses and jumps that name it as their
destination still happen. -/

namespace Sys2Proof.Machine

/-! ### r[0] as a destination -/

/-- A discarded write leaves the whole state, the parity flags too. -/
@[simp] theorem State.writeRegIn_zero (s : State) (w : Window) (v : Word) : s.writeRegIn w 0#5 v = s := rfl

@[simp] theorem State.writeReg_zero (s : State) (v : Word) : s.writeReg 0#5 v = s := s.writeRegIn_zero s.psr.cwp v

/-- An accepted LD to r[0] is its read request and nothing else (rules R23, R180). -/
theorem exec_ld_zero {s : State} {rs1 : RegNum} {op2 : Operand2} (ha : s.effAddr rs1 op2 &&& 3#32 = 0#32)
    (hr : s.refuses (s.readRequest s.dataAsi (s.effAddr rs1 op2) 0b10#2 false false) = false) :
    exec (.ld 0#5 rs1 op2) s =
      (s.request (s.readRequest s.dataAsi (s.effAddr rs1 op2) 0b10#2 false false)).complete := by
  rw [exec_ld, execLd, State.loadWord, whenAligned_of_aligned ((aligned_word_iff _).mpr ha),
    readAccess_of_accepted (by rw [dataRequest_none]; exact hr), dataRequest_none, State.writeReg_zero]
  rfl

/-- JMPL that links to r[0] is its jump and nothing else (rules R23, R318). -/
theorem exec_jmpl_zero {s : State} {rs1 : RegNum} {op2 : Operand2} (ha : s.effAddr rs1 op2 &&& 3#32 = 0#32) :
    exec (.jmpl 0#5 rs1 op2) s = s.jump (s.effAddr rs1 op2) := by
  rw [exec_jmpl, execJmpl, whenAligned_of_aligned ((aligned_word_iff _).mpr ha), State.writeReg_zero]

/-! ### The obligation -/

/-- Settles O25: reads and writes of r[0] by their rules, the load and the jump by what is left of them when the write is
discarded. -/
theorem registerZero : Obligations.RegisterZero := by
  unfold Obligations.RegisterZero
  intro s
  refine ⟨s.readRegIn_zero, s.writeRegIn_zero, fun _ t _ => t.readReg_zero, fun rs1 op2 ha => ⟨fun hr => ?load, ?jump⟩⟩
  case load =>
    refine ⟨_, exec_ld_zero ha hr, sameRegsBut_of_eq rfl rfl rfl, ?_⟩
    simp only [State.advance_bus, State.retire_bus, State.request_bus, State.effAddr]
  case jump =>
    have ends := endsInTransfer_transfer s (s.effAddr rs1 op2)
    exact ⟨_, exec_jmpl_zero ha, sameRegsBut_of_eq rfl rfl rfl, ends.npc⟩

end Sys2Proof.Machine
end

section
/-! Alignment of data accesses (rule R172): the check of a halfword, word or doubleword access comes before every request and
raises in the state as it was; a byte access has no such check. -/

namespace Sys2Proof.Machine

variable {s : State} {rd rs1 rs2 : RegNum} {op2 : Operand2} {asi : Asi} {ea : Word}

/-! ### The masks of misaligned addresses -/

theorem misaligned_half_iff (a : Word) : Size.half.aligned a = false ↔ a &&& 1#32 ≠ 0#32 :=
  Bool.eq_false_iff.trans (aligned_half_iff a).not

theorem misaligned_word_iff (a : Word) : Size.word.aligned a = false ↔ a &&& 3#32 ≠ 0#32 :=
  Bool.eq_false_iff.trans (aligned_word_iff a).not

theorem misaligned_dbl_iff (a : Word) : Size.dbl.aligned a = false ↔ a &&& 7#32 ≠ 0#32 :=
  Bool.eq_false_iff.trans (aligned_dbl_iff a).not

/-! ### What a misaligned access is -/

/-- The instruction raises mem_address_not_aligned in the state as it was, so nothing of it is performed. -/
def State.RaisesMisaligned (s : State) (i : Instr) : Prop := exec i s = s.raise .memAddressNotAligned

/-- The trap entry describes the next state, and no request has reached the bus. -/
theorem State.RaisesMisaligned.traps {i : Instr} (h : s.RaisesMisaligned i) :
    ∃ t, exec i s = .next t ∧ State.Traps .memAddressNotAligned s t ∧ t.bus = s.bus :=
  ⟨_, h, traps_takeTrap _ s, s.takeTrap_bus _⟩

/-- In supervisor mode a privileged access is misaligned when the access itself is. -/
theorem supervisorOnly_of_misaligned {r : Result} (hs : s.psr.s = true) (hr : r = s.raise .memAddressNotAligned) :
    s.supervisorOnly r = s.raise .memAddressNotAligned := (supervisorOnly_of_supervisor hs).trans hr

/-! ### The forms of the integer unit -/

theorem half_raisesMisaligned (h : Size.half.aligned (s.effAddr rs1 op2) = false) :
    ∀ i ∈ [Instr.ldsh rd rs1 op2, .lduh rd rs1 op2, .sth rd rs1 op2], s.RaisesMisaligned i :=
  List.forall_iff_forall_mem.mp
    ⟨(exec_ldsh ..).trans (whenAligned_of_misaligned h),
      (exec_lduh ..).trans (whenAligned_of_misaligned h),
      (exec_sth ..).trans (whenAligned_of_misaligned h)⟩

theorem word_raisesMisaligned (h : Size.word.aligned (s.effAddr rs1 op2) = false) :
    ∀ i ∈ [Instr.ld rd rs1 op2, .st rd rs1 op2, .swap rd rs1 op2], s.RaisesMisaligned i :=
  List.forall_iff_forall_mem.mp
    ⟨(exec_ld ..).trans (whenAligned_of_misaligned h),
      (exec_st ..).trans (whenAligned_of_misaligned h),
      (exec_swap ..).trans (whenAligned_of_misaligned h)⟩

theorem double_raisesMisaligned (h : Size.dbl.aligned (s.effAddr rs1 op2) = false) :
    ∀ i ∈ [Instr.ldd rd rs1 op2, .std rd rs1 op2], s.RaisesMisaligned i :=
  List.forall_iff_forall_mem.mp
    ⟨(exec_ldd ..).trans (whenAligned_of_misaligned h),
      (exec_std ..).trans (whenAligned_of_misaligned h)⟩

theorem halfAlternate_raisesMisaligned (hs : s.psr.s = true) (h : Size.half.aligned (s.altAddr rs1 rs2) = false) :
    ∀ i ∈ [Instr.ldsha rd rs1 asi rs2, .lduha rd rs1 asi rs2, .stha rd rs1 asi rs2], s.RaisesMisaligned i :=
  List.forall_iff_forall_mem.mp
    ⟨(exec_ldsha ..).trans (supervisorOnly_of_misaligned hs (whenAligned_of_misaligned h)),
      (exec_lduha ..).trans (supervisorOnly_of_misaligned hs (whenAligned_of_misaligned h)),
      (exec_stha ..).trans (supervisorOnly_of_misaligned hs (whenAligned_of_misaligned h))⟩

theorem wordAlternate_raisesMisaligned (hs : s.psr.s = true) (h : Size.word.aligned (s.altAddr rs1 rs2) = false) :
    ∀ i ∈ [Instr.lda rd rs1 asi rs2, .sta rd rs1 asi rs2, .swapa rd rs1 asi rs2], s.RaisesMisaligned i :=
  List.forall_iff_forall_mem.mp
    ⟨(exec_lda ..).trans (supervisorOnly_of_misaligned hs (whenAligned_of_misaligned h)),
      (exec_sta ..).trans (supervisorOnly_of_misaligned hs (whenAligned_of_misaligned h)),
      (exec_swapa ..).trans (supervisorOnly_of_misaligned hs (whenAligned_of_misaligned h))⟩

theorem doubleAlternate_raisesMisaligned (hs : s.psr.s = true) (h : Size.dbl.aligned (s.altAddr rs1 rs2) = false) :
    ∀ i ∈ [Instr.ldda rd rs1 asi rs2, .stda rd rs1 asi rs2], s.RaisesMisaligned i :=
  List.forall_iff_forall_mem.mp
    ⟨(exec_ldda ..).trans (supervisorOnly_of_misaligned hs (whenAligned_of_misaligned h)),
      (exec_stda ..).trans (supervisorOnly_of_misaligned hs (whenAligned_of_misaligned h))⟩

/-! ### The forms of an enabled unit -/

section Unit

variable {kind : UnitKind}

/-- The alignment check of an enabled unit's access comes before its pending exceptions (rule R396). -/
theorem unitChecks_of_not_aligned {needs : Word → Bool} {aligned : Bool} {go : State → Result}
    (he : s.unitEnabled kind = true) (ha : aligned = false) :
    s.unitChecks kind needs aligned go = s.raise .memAddressNotAligned := by
  rw [ha, unitChecks_of_misaligned he]

theorem unitLoad_of_misaligned (he : s.unitEnabled kind = true) (h : Size.word.aligned ea = false) :
    s.unitLoad kind rd ea = s.raise .memAddressNotAligned := unitChecks_of_not_aligned he h

theorem unitLoadStatus_of_misaligned (he : s.unitEnabled kind = true) (h : Size.word.aligned ea = false) :
    s.unitLoadStatus kind ea = s.raise .memAddressNotAligned := unitChecks_of_not_aligned he h

theorem unitStoreWord_of_misaligned {needs : Word → Bool} {value : Coproc → Word} (he : s.unitEnabled kind = true)
    (h : Size.word.aligned ea = false) : s.unitStoreWord kind needs ea value = s.raise .memAddressNotAligned :=
  unitChecks_of_not_aligned he h

theorem unitLoadDouble_of_misaligned (he : s.unitEnabled kind = true) (h : Size.dbl.aligned ea = false) :
    s.unitLoadDouble kind rd ea = s.raise .memAddressNotAligned := unitChecks_of_not_aligned he h

theorem unitStoreDouble_of_misaligned (he : s.unitEnabled kind = true) (h : Size.dbl.aligned ea = false) :
    s.unitStoreDouble kind rd ea = s.raise .memAddressNotAligned := unitChecks_of_not_aligned he h

theorem unitStoreQueue_of_misaligned (he : s.unitEnabled kind = true) (hs : s.psr.s = true)
    (h : Size.dbl.aligned ea = false) : s.unitStoreQueue kind ea = s.raise .memAddressNotAligned :=
  supervisorOnly_of_misaligned hs (unitChecks_of_not_aligned he h)

end Unit

theorem fpuWord_raisesMisaligned (he : s.unitEnabled .fpu = true) (h : Size.word.aligned (s.effAddr rs1 op2) = false) :
    ∀ i ∈ [Instr.ldf rd rs1 op2, .ldfsr rd rs1 op2, .stf rd rs1 op2, .stfsr rd rs1 op2], s.RaisesMisaligned i :=
  List.forall_iff_forall_mem.mp
    ⟨(exec_ldf ..).trans (unitLoad_of_misaligned he h),
      (exec_ldfsr ..).trans (unitLoadStatus_of_misaligned he h),
      (exec_stf ..).trans (unitStoreWord_of_misaligned he h),
      (exec_stfsr ..).trans (unitStoreWord_of_misaligned he h)⟩

theorem fpuDouble_raisesMisaligned (he : s.unitEnabled .fpu = true) (h : Size.dbl.aligned (s.effAddr rs1 op2) = false) :
    ∀ i ∈ [Instr.lddf rd rs1 op2, .stdf rd rs1 op2], s.RaisesMisaligned i :=
  List.forall_iff_forall_mem.mp
    ⟨(exec_lddf ..).trans (unitLoadDouble_of_misaligned he h),
      (exec_stdf ..).trans (unitStoreDouble_of_misaligned he h)⟩

theorem cpWord_raisesMisaligned (he : s.unitEnabled .cp = true) (h : Size.word.aligned (s.effAddr rs1 op2) = false) :
    ∀ i ∈ [Instr.ldc rd rs1 op2, .ldcsr rd rs1 op2, .stc rd rs1 op2, .stcsr rd rs1 op2], s.RaisesMisaligned i :=
  List.forall_iff_forall_mem.mp
    ⟨(exec_ldc ..).trans (unitLoad_of_misaligned he h),
      (exec_ldcsr ..).trans (unitLoadStatus_of_misaligned he h),
      (exec_stc ..).trans (unitStoreWord_of_misaligned he h),
      (exec_stcsr ..).trans (unitStoreWord_of_misaligned he h)⟩

theorem cpDouble_raisesMisaligned (he : s.unitEnabled .cp = true) (h : Size.dbl.aligned (s.effAddr rs1 op2) = false) :
    ∀ i ∈ [Instr.lddc rd rs1 op2, .stdc rd rs1 op2], s.RaisesMisaligned i :=
  List.forall_iff_forall_mem.mp
    ⟨(exec_lddc ..).trans (unitLoadDouble_of_misaligned he h),
      (exec_stdc ..).trans (unitStoreDouble_of_misaligned he h)⟩

/-! ### Byte accesses -/

/-- As far as tt shows, no trap k was taken from s to t: tt is k's afterwards only if it was before. -/
def State.NeverTakes (k : Trap) (s t : State) : Prop := t.tt = k.tt → s.tt = k.tt

theorem neverTakes_of_tt_eq {k : Trap} {t : State} (h : t.tt = s.tt) : State.NeverTakes k s t := fun ht => h.symm.trans ht

theorem neverTakes_takeTrap {k other : Trap} (h : other.tt ≠ k.tt) (u : State) : State.NeverTakes k s (u.takeTrap other) :=
  fun ht => absurd ((u.takeTrap_tt other).symm.trans ht) h

/-- A byte load ends in sequence or, refused, in data_access_exception. -/
theorem loadByte_neverMisaligned {ext : Byte → Word} :
    Yields (s.loadByte asi ea rd ext) (State.NeverTakes .memAddressNotAligned s) :=
  yields_readAccess (neverTakes_takeTrap (by decide) _) fun _ => yields_complete (neverTakes_of_tt_eq (by simp))

theorem storeByte_neverMisaligned : Yields (s.storeByte asi ea rd) (State.NeverTakes .memAddressNotAligned s) :=
  yields_writeAccess (neverTakes_takeTrap (by decide) _) fun _ => yields_complete (neverTakes_of_tt_eq (by simp))

/-- Both halves of a byte atomic, the read and the write, may be refused. -/
theorem loadStoreByte_neverMisaligned : Yields (s.loadStoreByte asi ea rd) (State.NeverTakes .memAddressNotAligned s) := by
  unfold State.loadStoreByte State.exchange
  exact yields_readAccess (neverTakes_takeTrap (by decide) _) fun _ =>
    yields_writeAccess (neverTakes_takeTrap (by decide) _) fun _ => yields_complete (neverTakes_of_tt_eq (by simp))

/-- The privilege check adds no alignment trap. -/
theorem supervisorOnly_neverMisaligned {r : Result} (h : Yields r (State.NeverTakes .memAddressNotAligned s)) :
    Yields (s.supervisorOnly r) (State.NeverTakes .memAddressNotAligned s) :=
  yields_supervisorOnly (fun _ => neverTakes_takeTrap (by decide) _) fun _ => h

theorem byte_neverMisaligned :
    ∀ i ∈ [Instr.ldsb rd rs1 op2, .ldub rd rs1 op2, .stb rd rs1 op2, .ldstub rd rs1 op2, .ldsba rd rs1 asi rs2,
      .lduba rd rs1 asi rs2, .stba rd rs1 asi rs2, .ldstuba rd rs1 asi rs2],
      Yields (exec i s) (State.NeverTakes .memAddressNotAligned s) :=
  List.forall_iff_forall_mem.mp
    ⟨loadByte_neverMisaligned, loadByte_neverMisaligned, storeByte_neverMisaligned, loadStoreByte_neverMisaligned,
      supervisorOnly_neverMisaligned loadByte_neverMisaligned, supervisorOnly_neverMisaligned loadByte_neverMisaligned,
      supervisorOnly_neverMisaligned storeByte_neverMisaligned,
      supervisorOnly_neverMisaligned loadStoreByte_neverMisaligned⟩

end Sys2Proof.Machine
end

section
namespace Sys2Proof.Machine

/-! ### The obligation -/

/-- Settles O17: the forms sorted by who performs them and by size; each list of them raises before anything else happens, and
the byte forms by the traps that they can end in. -/
theorem misalignedAccessesTrap : Obligations.MisalignedAccessesTrap := by
  unfold Obligations.MisalignedAccessesTrap
  intro s rd rs1 rs2 op2 asi
  refine ⟨List.forall_iff_forall_mem.mp ⟨fun h i hi => ?half, fun h i hi => ?word, fun h i hi => ?double⟩,
    List.forall_iff_forall_mem.mp ⟨fun hs h i hi => ?halfAlt, fun hs h i hi => ?wordAlt, fun hs h i hi => ?doubleAlt⟩,
    List.forall_iff_forall_mem.mp
      ⟨fun he => ⟨fun h i hi => ?fpuWord, fun h => ⟨fun i hi => ?fpuDouble, fun hs => ?fpuQueue⟩⟩,
        fun he => ⟨fun h i hi => ?cpWord, fun h => ⟨fun i hi => ?cpDouble, fun hs => ?cpQueue⟩⟩⟩,
    fun i hi t e => ?byte⟩
  case half => exact (half_raisesMisaligned ((misaligned_half_iff _).mpr h) i hi).traps
  case word => exact (word_raisesMisaligned ((misaligned_word_iff _).mpr h) i hi).traps
  case double => exact (double_raisesMisaligned ((misaligned_dbl_iff _).mpr h) i hi).traps
  case halfAlt => exact (halfAlternate_raisesMisaligned hs ((misaligned_half_iff _).mpr h) i hi).traps
  case wordAlt => exact (wordAlternate_raisesMisaligned hs ((misaligned_word_iff _).mpr h) i hi).traps
  case doubleAlt => exact (doubleAlternate_raisesMisaligned hs ((misaligned_dbl_iff _).mpr h) i hi).traps
  case fpuWord => exact (fpuWord_raisesMisaligned he ((misaligned_word_iff _).mpr h) i hi).traps
  case fpuDouble => exact (fpuDouble_raisesMisaligned he ((misaligned_dbl_iff _).mpr h) i hi).traps
  case cpWord => exact (cpWord_raisesMisaligned he ((misaligned_word_iff _).mpr h) i hi).traps
  case cpDouble => exact (cpDouble_raisesMisaligned he ((misaligned_dbl_iff _).mpr h) i hi).traps
  case fpuQueue =>
    have raised : s.RaisesMisaligned (.stdfq rd rs1 op2) :=
      (exec_stdfq ..).trans (unitStoreQueue_of_misaligned he hs ((misaligned_dbl_iff _).mpr h))
    exact raised.traps
  case cpQueue =>
    have raised : s.RaisesMisaligned (.stdcq rd rs1 op2) :=
      (exec_stdcq ..).trans (unitStoreQueue_of_misaligned he hs ((misaligned_dbl_iff _).mpr h))
    exact raised.traps
  case byte => exact (byte_neverMisaligned i hi).of_next e

end Sys2Proof.Machine
end

section
/-! Error mode (rules R431, R432): its pin ERROR, and what the empty step and the entry of reset mode do to ERROR and HWERROR. -/

namespace Sys2Proof.Machine

/-! ### ERROR and HWERROR -/

variable {s : State}

theorem State.errorPin_iff : s.errorPin = true ↔ s.mode = .error := beq_iff_eq

@[simp] theorem State.quiet_errorPin : s.quiet.errorPin = s.errorPin := rfl

@[simp] theorem State.quiet_hwerrorPin : s.quiet.hwerrorPin = s.hwerrorPin := rfl

@[simp] theorem State.enterReset_mode : s.enterReset.mode = .reset := rfl

@[simp] theorem State.enterReset_errorPin : s.enterReset.errorPin = false := rfl

@[simp] theorem State.enterReset_hwerrorPin : s.enterReset.hwerrorPin = false := rfl

end Sys2Proof.Machine
end

section
namespace Sys2Proof.Machine

/-! ### The obligation -/

/-- Settles O11: without RESET a halted machine keeps even its log and another one only empties it; with RESET the step is the
entry of reset mode. -/
theorem errorModeStays : Obligations.ErrorModeStays := by
  unfold Obligations.ErrorModeStays
  intro s hm
  refine ⟨fun hr => ?stays, fun hr hf hh => ?leaves⟩
  case stays =>
    have asserted : s.errorPin = true := State.errorPin_iff.mpr hm
    cases hh : s.inputs.halt with
    | true => exact ⟨s, step_halted hh, rfl, asserted, rfl, nofun⟩
    | false =>
      exact ⟨s.quiet, step_errorMode hh hr hm, rfl, State.quiet_errorPin.trans asserted, State.quiet_hwerrorPin,
        fun _ => ⟨s.quiet_bus, s.quiet_signals⟩⟩
  case leaves =>
    exact ⟨s.quiet.enterReset, step_reset hh hf hr, State.enterReset_mode, State.enterReset_errorPin,
      State.enterReset_hwerrorPin⟩

end Sys2Proof.Machine
end

section
/-! The decoder by formats: the table that each format is decoded by, and the encoder's words under them (rules R131 to R133,
R137). -/

namespace Sys2Proof

/-! ### The table of a word is that of its op field -/

theorem decodeWord_format2 {w : Word} (h : fieldOp w = 0#2) : decodeWord w = decodeFormat2 w := by
  simp only [decodeWord, h]; rfl

theorem decodeWord_call (d : BitVec 30) : decodeWord (1#2 ++ d) = .ok (.call d) := by
  simp only [decodeWord, fieldOp_call, fieldDisp30_call]; rfl

theorem decodeWord_arith {w : Word} (h : fieldOp w = 2#2) : decodeWord w = decodeArith w := by
  simp only [decodeWord, h]; rfl

theorem decodeWord_mem {w : Word} (h : fieldOp w = 3#2) : decodeWord w = decodeMem w := by
  simp only [decodeWord, h]; rfl

/-! ### Format 2 -/

theorem decodeWord_fmt2Imm (rd : RegNum) (op2 : BitVec 3) (c : BitVec 22) :
    decodeWord (fmt2Imm rd op2 c) = decodeFormat2 (fmt2Imm rd op2 c) := decodeWord_format2 (fieldOp_fmt2Imm ..)

theorem decodeWord_unimp (rd : RegNum) (c : BitVec 22) : decodeWord (fmt2Imm rd 0#3 c) = .ok (.unimp c) := by
  rw [decodeWord_fmt2Imm, decodeFormat2, fieldOpTwo_fmt2Imm, fieldImm22_fmt2Imm]; rfl

theorem decodeWord_sethi (rd : RegNum) (c : BitVec 22) : decodeWord (fmt2Imm rd 4#3 c) = .ok (.sethi rd c) := by
  rw [decodeWord_fmt2Imm, decodeFormat2, fieldOpTwo_fmt2Imm, fieldRd_fmt2Imm, fieldImm22_fmt2Imm]; rfl

section Branches

variable (a : Bool) (cond : BitVec 4) (d : BitVec 22)

theorem decodeWord_bicc : decodeWord (fmt2Branch a cond 2#3 d) = .ok (decodeBicc (fmt2Branch a cond 2#3 d)) := by
  rw [decodeWord_format2 (fieldOp_fmt2Branch ..), decodeFormat2, fieldOpTwo_fmt2Branch]; rfl

theorem decodeWord_fbfcc : decodeWord (fmt2Branch a cond 6#3 d) = .ok (decodeFbfcc (fmt2Branch a cond 6#3 d)) := by
  rw [decodeWord_format2 (fieldOp_fmt2Branch ..), decodeFormat2, fieldOpTwo_fmt2Branch]; rfl

theorem decodeWord_cbccc : decodeWord (fmt2Branch a cond 7#3 d) = .ok (decodeCbccc (fmt2Branch a cond 7#3 d)) := by
  rw [decodeWord_format2 (fieldOp_fmt2Branch ..), decodeFormat2, fieldOpTwo_fmt2Branch]; rfl

end Branches

/-! ### Format 3 -/

section Format3

variable (rd : RegNum) (op3 : BitVec 6) (rs1 : RegNum) (low : BitVec 14)

theorem decodeWord_fmt3_arith : decodeWord (fmt3 2#2 rd op3 rs1 low) = decodeArith (fmt3 2#2 rd op3 rs1 low) :=
  decodeWord_arith (fieldOp_fmt3 ..)

theorem decodeWord_fmt3_mem : decodeWord (fmt3 3#2 rd op3 rs1 low) = decodeMem (fmt3 3#2 rd op3 rs1 low) :=
  decodeWord_mem (fieldOp_fmt3 ..)

theorem decodeWord_ticc : decodeWord (fmt3 2#2 rd 58#6 rs1 low) = .ok (decodeTicc (fmt3 2#2 rd 58#6 rs1 low)) := by
  rw [decodeWord_fmt3_arith, decodeArith, fieldOp3_fmt3]; rfl

theorem decodeWord_fpop1 : decodeWord (fmt3 2#2 rd 52#6 rs1 low) = .ok (decodeFpop1 (fmt3 2#2 rd 52#6 rs1 low)) := by
  rw [decodeWord_fmt3_arith, decodeArith, fieldOp3_fmt3]; rfl

theorem decodeWord_fpop2 : decodeWord (fmt3 2#2 rd 53#6 rs1 low) = .ok (decodeFpop2 (fmt3 2#2 rd 53#6 rs1 low)) := by
  rw [decodeWord_fmt3_arith, decodeArith, fieldOp3_fmt3]; rfl

/-- An alternate-space word with i = 0 is what its op3 says (rule R139). -/
theorem decodeAlternate_alt (asi : Asi) (rs2 : RegNum) (i : Instr) :
    decodeAlternate (fmt3 3#2 rd op3 rs1 (lowAlt asi rs2)) i = .ok i := by
  rw [decodeAlternate, fieldI_alt, if_neg (by decide)]

end Format3

/-! ### FPops: an opf of no table stays what it is (rules R150, R151, R155) -/

/-- A word with an opf that no row of FPop1 names. -/
theorem decodeFpop1_unassigned {w : Word} (h : fieldOpf w ∉ assignedOpf1) :
    decodeFpop1 w = .fpop1 (fieldRd w) (fieldRs1 w) (fieldOpf w) (fieldRs2 w) := by
  have hn : BitVec.ofNat 9 (fieldOpf w).toNat ∉ assignedOpf1 := by rwa [BitVec.ofNat_toNat, BitVec.setWidth_eq]
  unfold decodeFpop1
  split
  case h_31 => rfl
  all_goals next e => exact absurd (by rw [e]; decide) hn

theorem decodeFpop2_unassigned {w : Word} (h : fieldOpf w ∉ assignedOpf2) :
    decodeFpop2 w = .fpop2 (fieldRd w) (fieldRs1 w) (fieldOpf w) (fieldRs2 w) := by
  have hn : BitVec.ofNat 9 (fieldOpf w).toNat ∉ assignedOpf2 := by rwa [BitVec.ofNat_toNat, BitVec.setWidth_eq]
  unfold decodeFpop2
  split
  case h_7 => rfl
  all_goals next e => exact absurd (by rw [e]; decide) hn

end Sys2Proof
end

section
namespace Sys2Proof

/-! ### The encoder's words -/

/-- Every well-formed instruction is decoded from its word, format by format. -/
theorem decodeWord_encode {i : Instr} (h : i.wellFormed = true) : decodeWord (encode i) = .ok i := by
  cases i with
  | unimp c => exact decodeWord_unimp 0#5 c
  | sethi rd c => exact decodeWord_sethi rd c
  | call d => exact decodeWord_call d
  | bn a d | be a d | ble a d | bl a d | bleu a d | bcs a d | bneg a d | bvs a d | ba a d | bne a d | bg a d | bge a d
  | bgu a d | bcc a d | bpos a d | bvc a d =>
    rw [encode, decodeWord_bicc, decodeBicc, fieldCond_fmt2Branch, fieldA_fmt2Branch, fieldImm22_fmt2Branch]; rfl
  | fbn a d | fbne a d | fblg a d | fbul a d | fbl a d | fbug a d | fbg a d | fbu a d | fba a d | fbe a d | fbue a d
  | fbge a d | fbuge a d | fble a d | fbule a d | fbo a d =>
    rw [encode, decodeWord_fbfcc, decodeFbfcc, fieldCond_fmt2Branch, fieldA_fmt2Branch, fieldImm22_fmt2Branch]; rfl
  | cbn a d | cb123 a d | cb12 a d | cb13 a d | cb1 a d | cb23 a d | cb2 a d | cb3 a d | cba a d | cb0 a d | cb03 a d
  | cb02 a d | cb023 a d | cb01 a d | cb013 a d | cb012 a d =>
    rw [encode, decodeWord_cbccc, decodeCbccc, fieldCond_fmt2Branch, fieldA_fmt2Branch, fieldImm22_fmt2Branch]; rfl
  | add rd rs1 o | and rd rs1 o | or rd rs1 o | xor rd rs1 o | sub rd rs1 o | andn rd rs1 o | orn rd rs1 o
  | xnor rd rs1 o | addx rd rs1 o | subx rd rs1 o | addcc rd rs1 o | andcc rd rs1 o | orcc rd rs1 o | xorcc rd rs1 o
  | subcc rd rs1 o | andncc rd rs1 o | orncc rd rs1 o | xnorcc rd rs1 o | addxcc rd rs1 o | subxcc rd rs1 o
  | taddcc rd rs1 o | tsubcc rd rs1 o | taddcctv rd rs1 o | tsubcctv rd rs1 o | mulscc rd rs1 o | jmpl rd rs1 o
  | save rd rs1 o | restore rd rs1 o =>
    rw [encode, decodeWord_fmt3_arith, decodeArith, fieldOp3_fmt3, fieldRd_fmt3, fieldRs1_fmt3, fieldOp2_fmt3]; rfl
  | sll rd rs1 n | srl rd rs1 n | sra rd rs1 n =>
    rw [encode, decodeWord_fmt3_arith, decodeArith, fieldOp3_fmt3, fieldRd_fmt3, fieldRs1_fmt3, fieldShift_fmt3]; rfl
  | rdy rd | rdpsr rd | rdwim rd | rdtbr rd =>
    rw [encode, decodeWord_fmt3_arith, decodeArith, fieldOp3_fmt3, fieldRd_fmt3]; rfl
  | wry rs1 o | wrpsr rs1 o | wrwim rs1 o | wrtbr rs1 o | rett rs1 o | iflush rs1 o =>
    rw [encode, decodeWord_fmt3_arith, decodeArith, fieldOp3_fmt3, fieldRs1_fmt3, fieldOp2_fmt3]; rfl
  | tn rs1 o | te rs1 o | tle rs1 o | tl rs1 o | tleu rs1 o | tcs rs1 o | tneg rs1 o | tvs rs1 o | ta rs1 o | tne rs1 o
  | tg rs1 o | tge rs1 o | tgu rs1 o | tcc rs1 o | tpos rs1 o | tvc rs1 o =>
    rw [encode, decodeWord_ticc, decodeTicc, fieldCond_fmt3, fieldRs1_fmt3, fieldOp2_fmt3]; rfl
  | fpop1 rd rs1 opf rs2 =>
    have hopf : opf ∉ assignedOpf1 := by simpa [Instr.wellFormed] using h
    rw [encode, fpopWord, decodeWord_fpop1, decodeFpop1_unassigned (by rwa [fieldOpf_fmt3]), fieldRd_fmt3, fieldRs1_fmt3,
      fieldOpf_fmt3, fieldRs2_opf]
  | fpop2 rd rs1 opf rs2 =>
    have hopf : opf ∉ assignedOpf2 := by simpa [Instr.wellFormed] using h
    rw [encode, fpopWord, decodeWord_fpop2, decodeFpop2_unassigned (by rwa [fieldOpf_fmt3]), fieldRd_fmt3, fieldRs1_fmt3,
      fieldOpf_fmt3, fieldRs2_opf]
  | fmovs rd rs1 rs2 | fnegs rd rs1 rs2 | fabss rd rs1 rs2 | fsqrts rd rs1 rs2 | fsqrtd rd rs1 rs2 | fsqrtx rd rs1 rs2
  | fadds rd rs1 rs2 | faddd rd rs1 rs2 | faddx rd rs1 rs2 | fsubs rd rs1 rs2 | fsubd rd rs1 rs2 | fsubx rd rs1 rs2
  | fmuls rd rs1 rs2 | fmuld rd rs1 rs2 | fmulx rd rs1 rs2 | fdivs rd rs1 rs2 | fdivd rd rs1 rs2 | fdivx rd rs1 rs2
  | fitos rd rs1 rs2 | fdtos rd rs1 rs2 | fxtos rd rs1 rs2 | fitod rd rs1 rs2 | fstod rd rs1 rs2 | fxtod rd rs1 rs2
  | fitox rd rs1 rs2 | fstox rd rs1 rs2 | fdtox rd rs1 rs2 | fstoi rd rs1 rs2 | fdtoi rd rs1 rs2 | fxtoi rd rs1 rs2 =>
    rw [encode, fpopWord, decodeWord_fpop1, decodeFpop1, fieldOpf_fmt3, fieldRd_fmt3, fieldRs1_fmt3, fieldRs2_opf]; rfl
  | fcmps rd rs1 rs2 | fcmpd rd rs1 rs2 | fcmpx rd rs1 rs2 | fcmpes rd rs1 rs2 | fcmped rd rs1 rs2 | fcmpex rd rs1 rs2 =>
    rw [encode, fpopWord, decodeWord_fpop2, decodeFpop2, fieldOpf_fmt3, fieldRd_fmt3, fieldRs1_fmt3, fieldRs2_opf]; rfl
  | cpop1 rd rs1 opc rs2 | cpop2 rd rs1 opc rs2 =>
    rw [encode, fpopWord, decodeWord_fmt3_arith, decodeArith, fieldOp3_fmt3, fieldRd_fmt3, fieldRs1_fmt3, fieldOpf_fmt3,
      fieldRs2_opf]; rfl
  | ld rd rs1 o | ldub rd rs1 o | lduh rd rs1 o | ldd rd rs1 o | st rd rs1 o | stb rd rs1 o | sth rd rs1 o | std rd rs1 o
  | ldsb rd rs1 o | ldsh rd rs1 o | ldstub rd rs1 o | swap rd rs1 o | ldf rd rs1 o | ldfsr rd rs1 o | lddf rd rs1 o
  | stf rd rs1 o | stfsr rd rs1 o | stdfq rd rs1 o | stdf rd rs1 o | ldc rd rs1 o | ldcsr rd rs1 o | lddc rd rs1 o
  | stc rd rs1 o | stcsr rd rs1 o | stdcq rd rs1 o | stdc rd rs1 o =>
    rw [encode, decodeWord_fmt3_mem, decodeMem, fieldOp3_fmt3, fieldRd_fmt3, fieldRs1_fmt3, fieldOp2_fmt3]; rfl
  | lda rd rs1 asi rs2 | lduba rd rs1 asi rs2 | lduha rd rs1 asi rs2 | ldda rd rs1 asi rs2 | sta rd rs1 asi rs2
  | stba rd rs1 asi rs2 | stha rd rs1 asi rs2 | stda rd rs1 asi rs2 | ldsba rd rs1 asi rs2 | ldsha rd rs1 asi rs2
  | ldstuba rd rs1 asi rs2 | swapa rd rs1 asi rs2 =>
    rw [encode, decodeWord_fmt3_mem, decodeMem, fieldOp3_fmt3, fieldRd_fmt3, fieldRs1_fmt3, fieldAsi_alt, fieldRs2_alt]
    exact decodeAlternate_alt ..

/-- Settles O1: the byte decoder on an encoded instruction is the word decoder on its word. -/
theorem decodeEncodeAgree : Obligations.DecodeEncodeAgree := by
  unfold Obligations.DecodeEncodeAgree
  intro i rest h
  rw [encodeBytes, decode_bytesOfWord, decodeWord_encode h]

end Sys2Proof
end

section
namespace Sys2Proof

/-! ### What the decoder gives (rules R137, R150, R151) -/

/-- Whatever instruction a decoding gives has the property. -/
def Gives (P : Instr → Prop) (r : Except DecodeError Instr) : Prop := ∀ i, r = .ok i → P i

theorem gives_ok {P : Instr → Prop} {i : Instr} (h : P i) : Gives P (.ok i) := fun j e => by cases e; exact h

theorem gives_error {P : Instr → Prop} {e : DecodeError} : Gives P (.error e) := fun _ h => nomatch h

theorem gives_alternate {P : Instr → Prop} {w : Word} {i : Instr} (h : P i) : Gives P (decodeAlternate w i) := by
  unfold decodeAlternate
  split
  · exact gives_error
  · exact gives_ok h

theorem wellFormed_decodeFpop1 (w : Word) : (decodeFpop1 w).wellFormed = true := by
  by_cases h : fieldOpf w ∈ assignedOpf1
  · generalize e : fieldOpf w = opf at h
    fin_cases h <;> (unfold decodeFpop1; rw [e]; rfl)
  · rw [decodeFpop1_unassigned h]
    simpa [Instr.wellFormed] using h

theorem wellFormed_decodeFpop2 (w : Word) : (decodeFpop2 w).wellFormed = true := by
  by_cases h : fieldOpf w ∈ assignedOpf2
  · generalize e : fieldOpf w = opf at h
    fin_cases h <;> (unfold decodeFpop2; rw [e]; rfl)
  · rw [decodeFpop2_unassigned h]
    simpa [Instr.wellFormed] using h

theorem wellFormed_decodeBicc (w : Word) : (decodeBicc w).wellFormed = true := by unfold decodeBicc; split <;> rfl

theorem wellFormed_decodeFbfcc (w : Word) : (decodeFbfcc w).wellFormed = true := by unfold decodeFbfcc; split <;> rfl

theorem wellFormed_decodeCbccc (w : Word) : (decodeCbccc w).wellFormed = true := by unfold decodeCbccc; split <;> rfl

theorem wellFormed_decodeTicc (w : Word) : (decodeTicc w).wellFormed = true := by unfold decodeTicc; split <;> rfl

theorem decodeFormat2_wellFormed (w : Word) : Gives (·.wellFormed = true) (decodeFormat2 w) := by
  unfold decodeFormat2
  split
  case h_1 => exact gives_ok rfl
  case h_2 => exact gives_ok (wellFormed_decodeBicc w)
  case h_3 => exact gives_ok rfl
  case h_4 => exact gives_ok (wellFormed_decodeFbfcc w)
  case h_5 => exact gives_ok (wellFormed_decodeCbccc w)
  case h_6 => exact gives_error

theorem decodeArith_wellFormed (w : Word) : Gives (·.wellFormed = true) (decodeArith w) := by
  unfold decodeArith
  split
  case h_37 => exact gives_ok (wellFormed_decodeFpop1 w)
  case h_38 => exact gives_ok (wellFormed_decodeFpop2 w)
  case h_43 => exact gives_ok (wellFormed_decodeTicc w)
  case h_47 => exact gives_error
  all_goals exact gives_ok rfl

theorem decodeMem_wellFormed (w : Word) : Gives (·.wellFormed = true) (decodeMem w) := by
  unfold decodeMem
  split
  case h_13 | h_14 | h_15 | h_16 | h_17 | h_18 | h_19 | h_20 | h_21 | h_22 | h_23 | h_24 => exact gives_alternate rfl
  case h_39 => exact gives_error
  all_goals exact gives_ok rfl

/-- Settles O2, by the four tables; only those of FPop1 and FPop2 give an instruction that carries its opf. -/
theorem decodedIsWellFormed : Obligations.DecodedIsWellFormed := by
  unfold Obligations.DecodedIsWellFormed
  intro w
  show Gives (·.wellFormed = true) (decodeWord w)
  unfold decodeWord
  split
  case h_1 => exact decodeFormat2_wellFormed w
  case h_2 => exact gives_ok rfl
  case h_3 => exact decodeArith_wellFormed w
  case h_4 => exact decodeMem_wellFormed w

end Sys2Proof
end

section
namespace Sys2Proof

/-! ### Fields that decide nothing (rules R138, R142) -/

/-- With i = 0 the second operand is a register, whatever stands in bits 12:5. -/
theorem fieldOp2_alt (op : BitVec 2) (rd : RegNum) (op3 : BitVec 6) (rs1 : RegNum) (b8 : BitVec 8) (rs2 : RegNum) :
    fieldOp2 (fmt3 op rd op3 rs1 (lowAlt b8 rs2)) = .reg rs2 := by
  rw [fieldOp2, fieldI_alt, fieldRs2_alt, if_neg (by decide)]

theorem fieldShift_alt (op : BitVec 2) (rd : RegNum) (op3 : BitVec 6) (rs1 : RegNum) (b8 : BitVec 8) (rs2 : RegNum) :
    fieldShift (fmt3 op rd op3 rs1 (lowAlt b8 rs2)) = .reg rs2 := by
  rw [fieldShift, fieldI_alt, fieldRs2_alt, if_neg (by decide)]

/-- With i = 1 a shift count is bits 4:0, whatever stands above them. -/
theorem fieldShift_imm (op : BitVec 2) (rd : RegNum) (op3 : BitVec 6) (rs1 : RegNum) (b8 : BitVec 8) (n : BitVec 5) :
    fieldShift (fmt3 op rd op3 rs1 (1#1 ++ b8 ++ n)) = .imm n := by
  have hi : fieldI (fmt3 op rd op3 rs1 (1#1 ++ b8 ++ n)) = 1#1 :=
    (extract_fmt3 _ _ _ _ _ (by decide)).trans
      ((extract_append_high (1#1 ++ b8) n (by decide)).trans (extract_append_high 1#1 b8 (by decide)))
  have hn : fieldRs2 (fmt3 op rd op3 rs1 (1#1 ++ b8 ++ n)) = n :=
    (extract_fmt3 _ _ _ _ _ (by decide)).trans ((extract_append_low (1#1 ++ b8) n (by decide)).trans (extract_all n))
  rw [fieldShift, hi, hn, if_pos rfl]

/-- The second operand stands in bits 13:0. -/
theorem fieldOp2_low (op : BitVec 2) (rd rd' : RegNum) (op3 : BitVec 6) (rs1 : RegNum) (low : BitVec 14) :
    fieldOp2 (fmt3 op rd op3 rs1 low) = fieldOp2 (fmt3 op rd' op3 rs1 low) := by
  simp only [fieldOp2, fieldI, fieldSimm13, fieldRs2, extract_fmt3 _ _ _ _ _ (show 13 + 1 ≤ 14 by decide),
    extract_fmt3 _ _ _ _ _ (show 0 + 13 ≤ 14 by decide), extract_fmt3 _ _ _ _ _ (show 0 + 5 ≤ 14 by decide)]

/-- What an op = 10 word decodes to is decided by these fields, the FPops and CPops excepted, of which every bit is a field. -/
theorem decodeArith_congr {w w' : Word} (hop3 : fieldOp3 w' = fieldOp3 w) (hrd : fieldRd w' = fieldRd w)
    (hcond : fieldCond w' = fieldCond w) (hrs1 : fieldRs1 w' = fieldRs1 w) (hop2 : fieldOp2 w' = fieldOp2 w)
    (hshift : fieldShift w' = fieldShift w) (hpop : fieldOp3 w ∉ [52#6, 53#6, 54#6, 55#6]) :
    decodeArith w' = decodeArith w := by
  have h52 : (fieldOp3 w).toNat ∉ [52, 53, 54, 55] := fun h => hpop (by
    simpa [← BitVec.toNat_inj] using h)
  have ticc : decodeTicc w' = decodeTicc w := by simp only [decodeTicc, hcond, hrs1, hop2]
  unfold decodeArith
  rw [hop3, hrd, hrs1, hop2, hshift, ticc]
  split
  case h_37 | h_38 | h_39 | h_40 => next e => exact absurd (by rw [e]; decide) h52
  all_goals rfl

/-- What an op = 11 word decodes to is decided by these fields, the alternate-space forms excepted. -/
theorem decodeMem_congr {w w' : Word} (hop3 : fieldOp3 w' = fieldOp3 w) (hrd : fieldRd w' = fieldRd w)
    (hrs1 : fieldRs1 w' = fieldRs1 w) (hop2 : fieldOp2 w' = fieldOp2 w) (halt : (fieldOp3 w).extractLsb' 4 2 ≠ 1#2) :
    decodeMem w' = decodeMem w := by
  have h16 : (fieldOp3 w).toNat / 16 ≠ 1 := fun h => halt (by
    apply BitVec.eq_of_toNat_eq
    rw [BitVec.extractLsb'_toNat, Nat.shiftRight_eq_div_pow, h]
    rfl)
  unfold decodeMem
  rw [hop3, hrd, hrs1, hop2]
  split
  case h_13 | h_14 | h_15 | h_16 | h_17 | h_18 | h_19 | h_20 | h_21 | h_22 | h_23 | h_24 =>
    next e => exact absurd (by rw [e]) h16
  all_goals rfl

/-- A word given by its high 13 bits and the rest is one of format 3. -/
theorem fmt3_of_low (rd : RegNum) (op3 : BitVec 6) (low : BitVec 19) :
    2#2 ++ rd ++ op3 ++ low = fmt3 2#2 rd op3 (low.extractLsb' 14 5) (low.extractLsb' 0 14) := by
  have split : low.extractLsb' 14 5 ++ low.extractLsb' 0 14 = low := by
    rw [BitVec.extractLsb'_append_extractLsb'_eq_extractLsb' (Nat.zero_add 14).symm]
    exact extract_all low
  have assoc (x : BitVec 13) (y : BitVec 5) (z : BitVec 14) : (x ++ y ++ z : BitVec 32) = x ++ (y ++ z) :=
    BitVec.append_assoc
  rw [fmt3, assoc, split]

/-- Bit 29 of a Ticc word is the high bit of the place of rd. -/
theorem fmt3_of_cond (b : BitVec 1) (cond : BitVec 4) (op3 : BitVec 6) (rs1 : RegNum) (low : BitVec 14) :
    2#2 ++ b ++ cond ++ op3 ++ rs1 ++ low = fmt3 2#2 (b ++ cond) op3 rs1 low := by
  have assoc : (2#2 ++ b ++ cond : BitVec 7) = 2#2 ++ (b ++ cond) := BitVec.append_assoc
  rw [assoc, fmt3]

theorem decodeWord_rdy (rd : RegNum) (low : BitVec 19) : decodeWord (2#2 ++ rd ++ 40#6 ++ low) = .ok (.rdy rd) := by
  rw [fmt3_of_low, decodeWord_fmt3_arith, decodeArith, fieldOp3_fmt3, fieldRd_fmt3]; rfl

theorem decodeWord_rdpsr (rd : RegNum) (low : BitVec 19) : decodeWord (2#2 ++ rd ++ 41#6 ++ low) = .ok (.rdpsr rd) := by
  rw [fmt3_of_low, decodeWord_fmt3_arith, decodeArith, fieldOp3_fmt3, fieldRd_fmt3]; rfl

theorem decodeWord_rdwim (rd : RegNum) (low : BitVec 19) : decodeWord (2#2 ++ rd ++ 42#6 ++ low) = .ok (.rdwim rd) := by
  rw [fmt3_of_low, decodeWord_fmt3_arith, decodeArith, fieldOp3_fmt3, fieldRd_fmt3]; rfl

theorem decodeWord_rdtbr (rd : RegNum) (low : BitVec 19) : decodeWord (2#2 ++ rd ++ 43#6 ++ low) = .ok (.rdtbr rd) := by
  rw [fmt3_of_low, decodeWord_fmt3_arith, decodeArith, fieldOp3_fmt3, fieldRd_fmt3]; rfl

/-- Bits 12:5 of a register form (rule R138). -/
theorem decodeWord_arith_reg {op3 : BitVec 6} (h : op3 ∉ [52#6, 53#6, 54#6, 55#6]) (rd rs1 rs2 : RegNum) (b8 b8' : BitVec 8) :
    decodeWord (fmt3 2#2 rd op3 rs1 (lowAlt b8 rs2)) = decodeWord (fmt3 2#2 rd op3 rs1 (lowAlt b8' rs2)) := by
  rw [decodeWord_fmt3_arith, decodeWord_fmt3_arith]
  refine decodeArith_congr ?_ ?_ ?_ ?_ ?_ ?_ ?_
  · simp only [fieldOp3_fmt3]
  · simp only [fieldRd_fmt3]
  · simp only [fieldCond_fmt3]
  · simp only [fieldRs1_fmt3]
  · simp only [fieldOp2_alt]
  · simp only [fieldShift_alt]
  · rwa [fieldOp3_fmt3]

theorem decodeWord_mem_reg {op3 : BitVec 6} (h : op3.extractLsb' 4 2 ≠ 1#2) (rd rs1 rs2 : RegNum) (b8 b8' : BitVec 8) :
    decodeWord (fmt3 3#2 rd op3 rs1 (lowAlt b8 rs2)) = decodeWord (fmt3 3#2 rd op3 rs1 (lowAlt b8' rs2)) := by
  rw [decodeWord_fmt3_mem, decodeWord_fmt3_mem]
  refine decodeMem_congr ?_ ?_ ?_ ?_ ?_
  · simp only [fieldOp3_fmt3]
  · simp only [fieldRd_fmt3]
  · simp only [fieldRs1_fmt3]
  · simp only [fieldOp2_alt]
  · rwa [fieldOp3_fmt3]

section Words

variable (rd rs1 : RegNum) (low : BitVec 14)

theorem decodeWord_sll :
    decodeWord (fmt3 2#2 rd 37#6 rs1 low) = .ok (.sll rd rs1 (fieldShift (fmt3 2#2 rd 37#6 rs1 low))) := by
  rw [decodeWord_fmt3_arith, decodeArith, fieldOp3_fmt3, fieldRd_fmt3, fieldRs1_fmt3]; rfl

theorem decodeWord_srl :
    decodeWord (fmt3 2#2 rd 38#6 rs1 low) = .ok (.srl rd rs1 (fieldShift (fmt3 2#2 rd 38#6 rs1 low))) := by
  rw [decodeWord_fmt3_arith, decodeArith, fieldOp3_fmt3, fieldRd_fmt3, fieldRs1_fmt3]; rfl

theorem decodeWord_sra :
    decodeWord (fmt3 2#2 rd 39#6 rs1 low) = .ok (.sra rd rs1 (fieldShift (fmt3 2#2 rd 39#6 rs1 low))) := by
  rw [decodeWord_fmt3_arith, decodeArith, fieldOp3_fmt3, fieldRd_fmt3, fieldRs1_fmt3]; rfl

theorem decodeWord_wry :
    decodeWord (fmt3 2#2 rd 48#6 rs1 low) = .ok (.wry rs1 (fieldOp2 (fmt3 2#2 rd 48#6 rs1 low))) := by
  rw [decodeWord_fmt3_arith, decodeArith, fieldOp3_fmt3, fieldRs1_fmt3]; rfl

theorem decodeWord_wrpsr :
    decodeWord (fmt3 2#2 rd 49#6 rs1 low) = .ok (.wrpsr rs1 (fieldOp2 (fmt3 2#2 rd 49#6 rs1 low))) := by
  rw [decodeWord_fmt3_arith, decodeArith, fieldOp3_fmt3, fieldRs1_fmt3]; rfl

theorem decodeWord_wrwim :
    decodeWord (fmt3 2#2 rd 50#6 rs1 low) = .ok (.wrwim rs1 (fieldOp2 (fmt3 2#2 rd 50#6 rs1 low))) := by
  rw [decodeWord_fmt3_arith, decodeArith, fieldOp3_fmt3, fieldRs1_fmt3]; rfl

theorem decodeWord_wrtbr :
    decodeWord (fmt3 2#2 rd 51#6 rs1 low) = .ok (.wrtbr rs1 (fieldOp2 (fmt3 2#2 rd 51#6 rs1 low))) := by
  rw [decodeWord_fmt3_arith, decodeArith, fieldOp3_fmt3, fieldRs1_fmt3]; rfl

theorem decodeWord_rett :
    decodeWord (fmt3 2#2 rd 57#6 rs1 low) = .ok (.rett rs1 (fieldOp2 (fmt3 2#2 rd 57#6 rs1 low))) := by
  rw [decodeWord_fmt3_arith, decodeArith, fieldOp3_fmt3, fieldRs1_fmt3]; rfl

theorem decodeWord_iflush :
    decodeWord (fmt3 2#2 rd 59#6 rs1 low) = .ok (.iflush rs1 (fieldOp2 (fmt3 2#2 rd 59#6 rs1 low))) := by
  rw [decodeWord_fmt3_arith, decodeArith, fieldOp3_fmt3, fieldRs1_fmt3]; rfl

end Words

/-- Bits 12:5 of a shift by a constant (rule R142). -/
theorem decodeWord_shift_imm (rd rs1 : RegNum) (n : BitVec 5) (b8 b8' : BitVec 8) :
    ∀ op3 ∈ [37#6, 38#6, 39#6],
      decodeWord (fmt3 2#2 rd op3 rs1 (1#1 ++ b8 ++ n)) = decodeWord (fmt3 2#2 rd op3 rs1 (1#1 ++ b8' ++ n)) := by
  intro op3 h
  fin_cases h
  · simp only [decodeWord_sll, fieldShift_imm]
  · simp only [decodeWord_srl, fieldShift_imm]
  · simp only [decodeWord_sra, fieldShift_imm]

/-- rd of the instructions that have no destination (rules R320, R344, R381). -/
theorem decodeWord_noDestination (rd rs1 : RegNum) (low : BitVec 14) :
    ∀ op3 ∈ [48#6, 49#6, 50#6, 51#6, 57#6, 59#6],
      decodeWord (fmt3 2#2 rd op3 rs1 low) = decodeWord (fmt3 2#2 0#5 op3 rs1 low) := by
  intro op3 h
  fin_cases h
  · simp only [decodeWord_wry, fieldOp2_low 2#2 rd 0#5]
  · simp only [decodeWord_wrpsr, fieldOp2_low 2#2 rd 0#5]
  · simp only [decodeWord_wrwim, fieldOp2_low 2#2 rd 0#5]
  · simp only [decodeWord_wrtbr, fieldOp2_low 2#2 rd 0#5]
  · simp only [decodeWord_rett, fieldOp2_low 2#2 rd 0#5]
  · simp only [decodeWord_iflush, fieldOp2_low 2#2 rd 0#5]

/-- Bit 29 of Ticc (rule R325). -/
theorem decodeWord_ticc_bit (b b' : BitVec 1) (cond : BitVec 4) (rs1 : RegNum) (low : BitVec 14) :
    decodeWord (fmt3 2#2 (b ++ cond) 58#6 rs1 low) = decodeWord (fmt3 2#2 (b' ++ cond) 58#6 rs1 low) := by
  rw [decodeWord_ticc, decodeWord_ticc]
  unfold decodeTicc
  rw [fieldCond_fmt3, fieldCond_fmt3, extract_append_low _ cond (by decide), extract_append_low _ cond (by decide),
    fieldRs1_fmt3, fieldRs1_fmt3, fieldOp2_low 2#2 (b ++ cond) (b' ++ cond)]

/-- Settles O3: the decoder asks only for fields on which the two words agree. -/
theorem ignoredFieldsDecideNothing : Obligations.IgnoredFieldsDecideNothing := by
  unfold Obligations.IgnoredFieldsDecideNothing
  intro rd rs1 rs2 b8 b8' c low cond x
  refine ⟨fun op3 h => ?arith, fun op3 h => ?shift, fun op3 h => ?mem, fun op3 h => ?noRd, decodeWord_rdy rd low,
    decodeWord_rdpsr rd low, decodeWord_rdwim rd low, decodeWord_rdtbr rd low, ?ticc, decodeWord_unimp rd c⟩
  case arith => exact decodeWord_arith_reg h rd rs1 rs2 b8 b8'
  case shift => exact decodeWord_shift_imm rd rs1 rs2 b8 b8' op3 h
  case mem => exact decodeWord_mem_reg h rd rs1 rs2 b8 b8'
  case noRd => exact decodeWord_noDestination rd rs1 x op3 h
  case ticc =>
    rw [fmt3_of_cond, fmt3_of_cond]
    exact decodeWord_ticc_bit 1#1 0#1 cond rs1 x

end Sys2Proof
end

section
/-! SUPPORT. Traps of a step: what the step did before the trap does not show in the entry sequence. -/
namespace Sys2Proof.Machine

/-- Of the state in which a trap is taken the entry sequence does not mention the instruction register, the logs, the units and
what a prefetch or an earlier branch left. -/
theorem State.Traps.of_before {k : Trap} {s u t : State} (h : State.Traps k u t)
    (hu : u = { s with
      ir := u.ir, bus := u.bus, signals := u.signals, annul := u.annul, afterCondBranch := u.afterCondBranch
      storeUndo1 := u.storeUndo1, storeUndo2 := u.storeUndo2, freeIdx := u.freeIdx, fpu := u.fpu, cp := u.cp }) :
    State.Traps k s t := by
  rw [hu] at h
  exact ⟨h.psr, h.savedPc, h.savedNpc, ⟨h.regs.value, h.regs.parity⟩, h.tt, h.pc, h.npc, h.annul, h.mode, h.pfcSkip, h.checksum,
    h.wim, h.tba, h.y, h.memory, h.params, h.platform, h.controlParity, h.hwerror, h.inputs⟩

end Sys2Proof.Machine
end

section
namespace Sys2Proof

/-- Settles O4: the decoder run on each word. -/
theorem writtenWordsDecode : Obligations.WrittenWordsDecode := by
  unfold Obligations.WrittenWordsDecode
  exact ⟨rfl, rfl, rfl, rfl, rfl, rfl, rfl, rfl, rfl, rfl, rfl, rfl, rfl, rfl, rfl, rfl, rfl⟩

/-! ### Words that are no instruction (rules R136, R139, R148, R149) -/

/-- The decoder refuses. -/
def Refused (r : Except DecodeError Instr) : Prop := ∃ e, r = .error e

theorem not_refused_ok {i : Instr} : ¬Refused (.ok i) := fun ⟨_, h⟩ => nomatch h

theorem refused_error {e : DecodeError} : Refused (.error e) := ⟨e, rfl⟩

theorem refused_alternate {w : Word} {i : Instr} : Refused (decodeAlternate w i) ↔ fieldI w = 1#1 := by
  unfold decodeAlternate
  split
  · exact iff_of_true refused_error ‹_›
  · exact iff_of_false not_refused_ok ‹_›

/-- op3 of the op = 11 words that rule R149 leaves unused. -/
def unusedMem : List (BitVec 6) :=
  [8#6, 11#6, 12#6, 14#6, 24#6, 27#6, 28#6, 30#6, 34#6, 40#6, 41#6, 42#6, 43#6, 44#6, 45#6, 46#6, 47#6, 50#6, 56#6, 57#6,
    58#6, 59#6, 60#6, 61#6, 62#6, 63#6]

/-- op3 of the alternate-space forms (rule R139). -/
def alternateMem : List (BitVec 6) := [16#6, 17#6, 18#6, 19#6, 20#6, 21#6, 22#6, 23#6, 25#6, 26#6, 29#6, 31#6]

/-- op3 of the op = 10 words that rule R148 leaves unused. -/
def unusedArith : List (BitVec 6) :=
  [9#6, 10#6, 11#6, 13#6, 14#6, 15#6, 25#6, 26#6, 27#6, 29#6, 30#6, 31#6, 44#6, 45#6, 46#6, 47#6, 62#6, 63#6]

theorem refused_decodeFormat2 (w : Word) : Refused (decodeFormat2 w) ↔ fieldOpTwo w ∈ [1#3, 3#3, 5#3] := by
  unfold decodeFormat2
  generalize fieldOpTwo w = x
  split
  case h_6 =>
    refine iff_of_true refused_error ?_
    revert x; decide
  all_goals
    next e => exact iff_of_false not_refused_ok (by revert x; decide)

theorem refused_decodeArith (w : Word) : Refused (decodeArith w) ↔ fieldOp3 w ∈ unusedArith := by
  unfold decodeArith
  generalize fieldOp3 w = x
  split
  case h_47 =>
    refine iff_of_true refused_error ?_
    have := x.isLt
    simp only [unusedArith, List.mem_cons, List.not_mem_nil, or_false, ← BitVec.toNat_inj, BitVec.toNat_ofNat]
    simp only [imp_false] at *
    omega
  all_goals
    next e => exact iff_of_false not_refused_ok (by revert x; decide)

theorem refused_decodeMem (w : Word) :
    Refused (decodeMem w) ↔ fieldOp3 w ∈ unusedMem ∨ fieldOp3 w ∈ alternateMem ∧ fieldI w = 1#1 := by
  unfold decodeMem
  generalize fieldOp3 w = x
  split
  case h_13 | h_14 | h_15 | h_16 | h_17 | h_18 | h_19 | h_20 | h_21 | h_22 | h_23 | h_24 =>
    next e =>
      have hx : x ∉ unusedMem ∧ x ∈ alternateMem := by revert x; decide
      simp [refused_alternate, hx]
  case h_39 =>
    refine iff_of_true refused_error (.inl ?_)
    have := x.isLt
    simp only [unusedMem, List.mem_cons, List.not_mem_nil, or_false, ← BitVec.toNat_inj, BitVec.toNat_ofNat]
    simp only [imp_false] at *
    omega
  all_goals
    next e =>
      have hx : x ∉ unusedMem ∧ x ∉ alternateMem := by revert x; decide
      exact iff_of_false not_refused_ok (by simp [hx])

/-- The words that are no instruction. -/
theorem refused_decodeWord (w : Word) :
    Refused (decodeWord w) ↔ (fieldOp w = 0#2 ∧ fieldOpTwo w ∈ [1#3, 3#3, 5#3]) ∨
      (fieldOp w = 2#2 ∧ fieldOp3 w ∈ unusedArith) ∨
      (fieldOp w = 3#2 ∧ (fieldOp3 w ∈ unusedMem ∨ fieldOp3 w ∈ alternateMem ∧ fieldI w = 1#1)) := by
  have cases : ∀ x : BitVec 2, x = 0#2 ∨ x = 1#2 ∨ x = 2#2 ∨ x = 3#2 := by decide
  unfold decodeWord
  rcases cases (fieldOp w) with e | e | e | e <;> rw [e]
  · exact (refused_decodeFormat2 w).trans (by simp)
  · exact iff_of_false not_refused_ok (by simp)
  · exact (refused_decodeArith w).trans (by simp)
  · exact (refused_decodeMem w).trans (by simp)

open Machine in
/-- Settles O5: the decoder's default cases, and the step over a word it refuses. -/
theorem unassignedWordsTrap : Obligations.UnassignedWordsTrap := by
  unfold Obligations.UnassignedWordsTrap
  refine ⟨refused_decodeWord, fun s e hs hst he => ?_⟩
  rw [step_executes hs, executeWord_error (by rwa [ir_fetched, fetchWord_quiet, fetchWord_of_stable hst])]
  exact ⟨_, raise_eq _ _, (traps_takeTrap _ _).of_before rfl⟩

end Sys2Proof
end

section
/-! SUPPORT. One law for all steps, over the law for all meanings: a statement about every step is proved by giving what each event
of a step (rule R485) does. -/
namespace Sys2Proof.Machine

variable {P : State → Prop} {s : State}

/-- The state before the instruction at PC, or the trap that comes in its place, differs from the state before the step by what the
fetch changes. -/
def State.Reaches (s u : State) : Prop :=
  u = { s with
    ir := u.ir, bus := u.bus, signals := u.signals, storeUndo1 := u.storeUndo1, storeUndo2 := u.storeUndo2, freeIdx := u.freeIdx
    hwerror := u.hwerror }

/-- The trap of a step that comes before the instruction's own: an interrupt, a refused fetch or a refused word. -/
def Trap.OfStep : Trap → Prop
  | .interruptLevel _ | .instructionAccessException | .illegalInstruction => True
  | _ => False

/-- A step of a running machine is one of these: an annulled step, a hardware error, a trap that comes before the instruction, or the
instruction. -/
theorem yields_step_running (h : s.Running) (annulled : P s.quiet.annulStep)
    (hwError : ∀ u e, s.Reaches u → P (u.takeHwError e)) (trap : ∀ u k, s.Reaches u → k.OfStep → P (u.takeTrap k))
    (executes : s.annul = false → ∀ u i, s.Reaches u → Yields (exec i u.otherMasters) P) : Yields (step s) P := by
  cases ha : s.annul with
  | true => exact ⟨_, step_annulled h ha, annulled⟩
  | false =>
  cases he : s.hwError with
  | some e =>
    refine ⟨_, step_hwError h ha he, ?_⟩
    unfold State.eventStep
    split <;> exact hwError _ _ rfl
  | none =>
  cases hi : s.interruptPending with
  | true => exact ⟨_, step_interrupt h ha he hi, trap _ _ rfl trivial⟩
  | false =>
  cases hr : s.refuses s.fetchRequest with
  | true => exact ⟨_, step_fetchRefused h ha he hi hr, trap _ _ rfl trivial⟩
  | false =>
  rw [step_executes ⟨h, ha, he, hi, hr⟩]
  cases hd : decodeWord s.quiet.fetched.ir with
  | error e =>
    rw [executeWord_error hd]
    exact yields_raise (trap _ _ rfl trivial)
  | ok i =>
  cases hp : s.quiet.fetched.sourceError s.quiet.fetched.ir with
  | some e => exact ⟨_, executeWord_parity hd hp, hwError _ _ rfl⟩
  | none =>
    rw [executeWord_ok hd hp]
    exact executes ha _ _ rfl

/-- A live machine that is neither in reset nor in error mode and whose step has a next state runs. -/
theorem running_of_step {t : State} (hh : s.inputs.halt = false) (hf : s.inputs.resetFault = false) (hr : s.inputs.reset = false)
    (hm : s.mode = .execute) (hs : step s = .next t) : s.Running := by
  refine ⟨hh, hf, hr, hm, (aligned_word_iff _).mp ?_⟩
  by_contra hpc
  rw [step_live hh, State.liveStep, if_neg (by simp [State.quiet, hf]), if_neg (by simp [State.quiet, hr])] at hs
  simp [State.quiet, hm, hpc] at hs

/-- Every step of a machine with PC aligned is one of these. -/
theorem yields_step (hpc : s.pc &&& 3#32 = 0#32) (halted : P s) (resetFault : P s.quiet.enterErrorMode)
    (reset : P s.quiet.enterReset) (leaveReset : P s.quiet.leaveReset) (errorMode : P s.quiet)
    (running : s.Running → Yields (step s) P) : Yields (step s) P := by
  cases hh : s.inputs.halt with
  | true => exact ⟨_, step_halted hh, halted⟩
  | false =>
  cases hf : s.inputs.resetFault with
  | true => exact ⟨_, step_resetFault hh hf, resetFault⟩
  | false =>
  cases hr : s.inputs.reset with
  | true => exact ⟨_, step_reset hh hf hr, reset⟩
  | false =>
  cases hm : s.mode with
  | reset => exact ⟨_, step_leaveReset hh hf hr hm, leaveReset⟩
  | error => exact ⟨_, step_errorMode hh hr hm, errorMode⟩
  | execute => exact running ⟨hh, hf, hr, hm, hpc⟩

end Sys2Proof.Machine
end

section
/-! The invariant of the machine. -/
namespace Sys2Proof.Machine

/-! ### Every meaning keeps it -/

/-- The law for all meanings, for the invariant. -/
theorem shape_good (i : Instr) : Shape i State.Runs State.Good where
  request _ r h := h.request r
  writeReg _ n v h := h.writeReg n v
  storeBytes _ asi a bs h := h.storeBytes asi a bs
  setFree _ _ h := h.of_eq rfl rfl rfl rfl rfl rfl rfl
  setUnit _ k _ h hu := h.setUnit k (hu (h.unit k))
  complete _ h := h.complete
  flags _ f h := (h.setIcc f).complete
  multiply _ _ _ h := State.Runs.complete (h.of_eq rfl rfl rfl rfl rfl rfl rfl)
  pulsed _ p h := ((h.pulse p).useFree 1).complete
  branch _ cond taken a d h := (h.branch cond taken a d).good
  call _ d h := ((h.writeReg _ _).transfer (aligned_callTarget h.good.pc d)).retire.good
  jump _ _ h ha := (h.transfer ha).retire.good
  closeBlock _ _ h := ⟨h.complete.pc, h.complete.npc, h.good.mem, h.good.fpu, h.good.cp, h.good.pfcTag⟩
  window _ w _ _ h _ _ := ((h.setCwp w).writeReg _ _).complete
  returns _ _ h _ _ ha := (h.returnFromTrap ha).good
  wry _ _ h := State.Runs.complete (h.of_eq rfl rfl rfl rfl rfl rfl rfl)
  wrpsr _ _ h _ := State.Runs.complete (h.of_eq rfl rfl rfl rfl rfl rfl rfl)
  wrwim _ _ h _ := State.Runs.complete (h.of_eq rfl rfl rfl rfl rfl rfl rfl)
  wrtbr _ _ h _ := State.Runs.complete (h.of_eq rfl rfl rfl rfl rfl rfl rfl)
  trap _ _ h hf hc _ := h.takeTrap hf hc

/-! ### Every step keeps it -/

variable {s : State}

theorem State.Runs.of_reaches {u : State} (h : s.Runs) (hu : s.Reaches u) : u.Runs := by
  rw [hu]
  exact h.of_eq rfl rfl rfl rfl rfl rfl rfl

/-- What other bus masters write keeps memory in its canonical form. -/
theorem State.Runs.otherMasters (h : s.Runs) : s.otherMasters.Runs :=
  .intro h.good.pc h.good.npc (otherMasters_spec h.good.mem).1 h.mode h.good.fpu h.good.cp h.good.pfcTag

/-- A hardware error leaves a good state. -/
theorem State.Runs.takeHwError (h : s.Runs) (e : HwError) : (s.takeHwError e).Good := by
  have hs : ({ s with inputs := { s.inputs with parityErrors := [] }, hwerror := s.hwerror.raised e s.pc } : State).Runs :=
    h.of_eq rfl rfl rfl rfl rfl rfl rfl
  have ht := hs.takeTrap' (k := .hardwareError e) nofun nofun
  unfold State.takeHwError
  split
  · exact ⟨ht.pc, ht.npc, ht.mem, ht.fpu, ht.cp, ht.pfcTag⟩
  · exact ht

/-- From a good state a step leads to a good state. -/
theorem good_step (h : s.Good) : Yields (step s) State.Good := by
  refine yields_step h.pc h ?_ ?_ ?_ ?_ fun hr => ?_
  case refine_1 | refine_2 | refine_4 => exact ⟨h.pc, h.npc, h.mem, h.fpu, h.cp, h.pfcTag⟩
  case refine_3 => exact ⟨(rfl : 0#32 &&& 3#32 = 0#32), (rfl : 4#32 &&& 3#32 = 0#32), h.mem, h.fpu, h.cp, h.pfcTag⟩
  case refine_5 =>
    have hs : s.Runs := ⟨h, hr.mode⟩
    refine yields_step_running hr ⟨h.npc, aligned_add_four h.npc, h.mem, h.fpu, h.cp, h.pfcTag⟩
      (fun u e hu => (hs.of_reaches hu).takeHwError e) (fun u k hu hk => ?_) fun _ u i hu =>
        exec_shape (shape_good i) (hs.of_reaches hu).otherMasters
    exact (hs.of_reaches hu).takeTrap' (by rintro rfl; exact hk) (by rintro rfl; exact hk)

/-- Nothing that the environment may do touches the invariant but memory, whose form it keeps. -/
theorem State.Good.environment {t : State} (h : s.Good) (he : s.Environment t) : t.Good := by
  have hm := he.mem
  rw [he.rest] at hm ⊢
  exact ⟨h.pc, h.npc, hm, h.fpu, h.cp, h.pfcTag⟩

/-! ### A good machine goes on (rules R432, R485) -/

/-- A run begins with its first step. -/
theorem run_succ {n : Nat} {t : State} (h : step s = .next t) :
    Host.Core.run Sys2Proof.core (n + 1) s = Host.Core.run Sys2Proof.core n t := by
  simp only [Host.Core.run, show Sys2Proof.core.step s = .next t from h]

/-- Settles O20: every step keeps the invariant and has a next state, so every run does, by induction on its length. -/
theorem goodMachineGoesOn : Obligations.GoodMachineGoesOn := by
  unfold Obligations.GoodMachineGoesOn
  refine ⟨fun s h => (good_step h).imp fun _ => And.left, fun n => ?_⟩
  induction n with
  | zero => exact fun s h => ⟨s, rfl, h⟩
  | succ n ih =>
    intro s h
    obtain ⟨s', hs, h'⟩ := good_step h
    rw [run_succ hs]
    exact ih s' h'

end Sys2Proof.Machine
end

section
/-! What a step of a running machine may change of PSR, WIM, TBR and the mode. -/
namespace Sys2Proof.Machine

variable {s t u : State}

/-- Two states with the same pins, mode, WIM, TBR and PSR. -/
structure State.SameProtected (s t : State) : Prop where
  params : t.params = s.params
  mode : t.mode = s.mode
  wim : t.wim = s.wim
  tba : t.tba = s.tba
  tt : t.tt = s.tt
  psr : t.psr = s.psr

theorem State.SameProtected.trans (h : s.SameProtected t) (h' : t.SameProtected u) : s.SameProtected u :=
  ⟨h'.params.trans h.params, h'.mode.trans h.mode, h'.wim.trans h.wim, h'.tba.trans h.tba, h'.tt.trans h.tt,
    h'.psr.trans h.psr⟩

/-- The end of an instruction in user mode (rules R480 to R482): of the PSR the flags may change, and CWP to a valid neighbour. -/
structure State.EndsAsUser (s t : State) : Prop where
  params : t.params = s.params
  wim : t.wim = s.wim
  tba : t.tba = s.tba
  psr : t.psr = { s.psr with icc := t.psr.icc, cwp := t.psr.cwp }
  window : t.psr.cwp = s.psr.cwp ∨
    (t.psr.cwp = s.psr.cwp + 1#3 ∨ t.psr.cwp = s.psr.cwp - 1#3) ∧ s.wim.getLsbD t.psr.cwp.toNat = false

/-- The end of a step that enters a trap: EC, EF and PIL stay. -/
structure State.EndsInTrap (s t : State) : Prop where
  entered : s.EnteredTrap t
  params : t.params = s.params
  psr : t.psr = { s.psr with et := false, ps := s.psr.s, s := true, cwp := s.psr.cwp - 1#3 }

/-- A step of a running machine enters a trap, or leaves the trap type and the mode and in user mode what is protected. -/
def State.EndsProtected (s t : State) : Prop :=
  s.EndsInTrap t ∨ t.tt = s.tt ∧ t.mode = s.mode ∧ (s.psr.s = false → s.EndsAsUser t)

theorem State.SameProtected.ends (h : s.SameProtected t) : s.EndsProtected t :=
  .inr ⟨h.tt, h.mode, fun _ => ⟨h.params, h.wim, h.tba, by rw [h.psr], .inl (by rw [h.psr])⟩⟩

/-- What S guards happens in supervisor mode only. -/
theorem State.EndsProtected.of_supervisor (htt : t.tt = s.tt) (hmode : t.mode = s.mode) (hs : s.psr.s = true) :
    s.EndsProtected t := .inr ⟨htt, hmode, fun hu => absurd (hs.symm.trans hu) nofun⟩

/-- Flags may change in either mode. -/
theorem State.SameProtected.ends_flags (h : s.SameProtected u) {f : Icc} (hparams : t.params = u.params) (hmode : t.mode = u.mode)
    (hwim : t.wim = u.wim) (htba : t.tba = u.tba) (htt : t.tt = u.tt) (hpsr : t.psr = { u.psr with icc := f }) :
    s.EndsProtected t := by
  rw [h.psr] at hpsr
  exact .inr ⟨htt.trans h.tt, hmode.trans h.mode, fun _ => ⟨hparams.trans h.params, hwim.trans h.wim, htba.trans h.tba,
    by rw [hpsr], .inl (by rw [hpsr])⟩⟩

/-- CWP may change to a neighbour that WIM does not mark. -/
theorem State.SameProtected.ends_window (h : s.SameProtected u) {w : Window} (hv : u.windowInvalid w = false)
    (hw : w = u.psr.cwp - 1#3 ∨ w = u.psr.cwp + 1#3) (rd : RegNum) (v : Word) :
    s.EndsProtected ((u.setCwp w).writeReg rd v).retire.advance := by
  refine .inr ⟨h.tt, h.mode, fun _ => ⟨h.params, h.wim, h.tba, ?_, .inr ⟨?_, ?_⟩⟩⟩
  · show ({ u.psr with cwp := w } : Psr) = { s.psr with icc := u.psr.icc, cwp := w }
    rw [h.psr]
  · rw [← h.psr]
    exact hw.symm
  · rw [← h.wim]
    exact hv

/-- Any trap. -/
theorem State.SameProtected.ends_trap (h : s.SameProtected u) (k : Trap) : s.EndsInTrap (u.takeTrap k) := by
  have n := (traps_takeTrap k u).entered
  refine ⟨⟨n.et, n.supervisor, ?_, ?_, n.pc, n.npc, n.annul, n.tba.trans h.tba, n.wim.trans h.wim, ?_⟩, h.params, ?_⟩
  · rw [n.ps, h.psr]
  · rw [n.cwp, h.psr]
  · rw [n.mode, h.psr, h.mode]
  · rw [State.takeTrap_psr, h.psr]

/-- The same of a hardware error. -/
theorem State.SameProtected.ends_hwError (h : s.SameProtected u) (e : HwError) : s.EndsInTrap (u.takeHwError e) := by
  have n := takesHwError_takeHwError e u
  refine ⟨⟨n.entered.et, n.entered.supervisor, ?_, ?_, n.entered.pc, n.entered.npc, n.entered.annul, n.entered.tba.trans h.tba,
    n.entered.wim.trans h.wim, ?_⟩, n.params.trans h.params, ?_⟩
  · rw [n.entered.ps, h.psr]
  · rw [n.entered.cwp, h.psr]
  · rw [n.entered.mode, h.psr, h.mode]
  · rw [n.icc, h.psr]

/-- The law for all meanings, for what is protected. -/
theorem shape_protected (i : Instr) : Shape i s.SameProtected s.EndsProtected where
  request _ _ h := h.trans ⟨rfl, rfl, rfl, rfl, rfl, rfl⟩
  writeReg _ _ _ h := h.trans ⟨rfl, rfl, rfl, rfl, rfl, rfl⟩
  storeBytes _ _ _ _ h := h.trans ⟨rfl, rfl, rfl, rfl, rfl, rfl⟩
  setFree _ _ h := h.trans ⟨rfl, rfl, rfl, rfl, rfl, rfl⟩
  setUnit _ _ _ h _ := h.trans ⟨rfl, rfl, rfl, rfl, rfl, rfl⟩
  complete _ h := State.SameProtected.ends (h.trans ⟨rfl, rfl, rfl, rfl, rfl, rfl⟩)
  flags _ _ h := h.ends_flags rfl rfl rfl rfl rfl rfl
  multiply _ _ _ h := h.ends_flags rfl rfl rfl rfl rfl rfl
  pulsed _ _ h := State.SameProtected.ends (h.trans ⟨rfl, rfl, rfl, rfl, rfl, rfl⟩)
  branch _ _ _ _ _ h := State.SameProtected.ends (h.trans ⟨rfl, rfl, rfl, rfl, rfl, rfl⟩)
  call _ _ h := State.SameProtected.ends (h.trans ⟨rfl, rfl, rfl, rfl, rfl, rfl⟩)
  jump _ _ h _ := State.SameProtected.ends (h.trans ⟨rfl, rfl, rfl, rfl, rfl, rfl⟩)
  closeBlock _ _ h := State.SameProtected.ends (h.trans ⟨rfl, rfl, rfl, rfl, rfl, rfl⟩)
  window _ _ rd v h hv hw := h.ends_window hv hw rd v
  returns _ _ h _ hs _ := .of_supervisor h.tt h.mode (h.psr ▸ hs)
  wry _ _ h := State.SameProtected.ends (h.trans ⟨rfl, rfl, rfl, rfl, rfl, rfl⟩)
  wrpsr _ _ h hs := .of_supervisor h.tt h.mode (h.psr ▸ hs)
  wrwim _ _ h hs := .of_supervisor h.tt h.mode (h.psr ▸ hs)
  wrtbr _ _ h hs := .of_supervisor h.tt h.mode (h.psr ▸ hs)
  trap _ k h _ _ _ := .inl (h.ends_trap k)

theorem sameProtected_of_reaches (h : s.Reaches u) : s.SameProtected u := by
  rw [h]
  exact ⟨rfl, rfl, rfl, rfl, rfl, rfl⟩

/-- A step of a running machine ends so. -/
theorem step_endsProtected (h : s.Running) (hs : step s = .next t) : s.EndsProtected t :=
  (yields_step_running h (P := s.EndsProtected) (State.SameProtected.ends ⟨rfl, rfl, rfl, rfl, rfl, rfl⟩)
    (fun _ e hu => .inl ((sameProtected_of_reaches hu).ends_hwError e))
    (fun _ k hu _ => .inl ((sameProtected_of_reaches hu).ends_trap k))
    fun _ _ i hu => exec_shape (shape_protected i)
      ((sameProtected_of_reaches hu).trans ⟨rfl, rfl, rfl, rfl, rfl, rfl⟩)).of_next hs

/-! ### What follows for traps, error mode and user mode -/

/-- Settles O22. -/
theorem onlyTrapsWriteTt : Obligations.OnlyTrapsWriteTt := by
  unfold Obligations.OnlyTrapsWriteTt
  intro s t h hs
  obtain htrap | ⟨htt, hmode, -⟩ := step_endsProtected h hs
  · exact .inl htrap.entered
  · exact .inr ⟨htt, hmode.trans h.mode⟩

/-- Settles O21. -/
theorem userModeIsConfined : Obligations.UserModeIsConfined := by
  unfold Obligations.UserModeIsConfined
  intro s t h hu hs
  obtain htrap | ⟨htt, hmode, huser⟩ := step_endsProtected h hs
  · have hpsr := htrap.psr
    exact ⟨htrap.entered.wim, htrap.entered.tba, by rw [hpsr], by rw [hpsr], by rw [hpsr], htrap.params, .inl htrap.entered⟩
  · have e := huser hu
    have hpsr := e.psr
    exact ⟨e.wim, e.tba, by rw [hpsr], by rw [hpsr], by rw [hpsr], e.params,
      .inr ⟨by rw [hpsr]; exact hu, by rw [hpsr], by rw [hpsr], htt, hmode⟩⟩

/-- Settles O23. -/
theorem userWindowsAreGuarded : Obligations.UserWindowsAreGuarded := by
  unfold Obligations.UserWindowsAreGuarded
  intro s t h hu hs hno hne
  obtain htrap | ⟨-, -, huser⟩ := step_endsProtected h hs
  · exact absurd htrap.entered hno
  · exact (huser hu).window.resolve_left hne

/-- Error mode entered by a trap has traps disabled and nothing to annul, and a step in error mode changes neither (rules R36,
R430). -/
theorem errorQuiet_step (h : s.ErrorQuiet) (hf : s.inputs.resetFault = false) (hs : step s = .next t) : t.ErrorQuiet := by
  cases hh : s.inputs.halt with
  | true => exact Host.Outcome.next.inj ((step_halted hh).symm.trans hs) ▸ h
  | false =>
  cases hr : s.inputs.reset with
  | true =>
    rw [← Host.Outcome.next.inj ((step_reset hh hf hr).symm.trans hs)]
    exact fun hm => nomatch hm
  | false =>
  cases hm : s.mode with
  | reset =>
    rw [← Host.Outcome.next.inj ((step_leaveReset hh hf hr hm).symm.trans hs)]
    exact fun hm => nomatch hm
  | error =>
    rw [← Host.Outcome.next.inj ((step_errorMode hh hr hm).symm.trans hs)]
    exact h
  | execute =>
    obtain htrap | ⟨-, hmode, -⟩ := step_endsProtected (running_of_step hh hf hr hm hs) hs
    · exact fun _ => ⟨htrap.entered.et, htrap.entered.annul⟩
    · exact fun he => nomatch hm.symm.trans (hmode.symm.trans he)

/-- Settles O18: the invariant by the laws for all meanings and all steps, error mode by what is protected. -/
theorem stepKeepsGood : Obligations.StepKeepsGood := by
  unfold Obligations.StepKeepsGood
  exact ⟨fun s t h hst => hst.elim (fun hs => (good_step h).of_next hs) h.environment,
    fun s t h hf hs => errorQuiet_step h hf hs⟩

end Sys2Proof.Machine
end

section
/-! The privileged instructions (rule R480). -/
namespace Sys2Proof.Machine

variable {s : State}

/-! ### In user mode they take privileged_instruction -/

/-- Every privileged form but WRPSR and RETT checks S first. -/
theorem privilegedForms_supervisorOnly (s : State) (rd rs1 rs2 : RegNum) (op2 : Operand2) (asi : Asi) :
    ∀ i ∈ privilegedForms rd rs1 rs2 op2 asi, ∃ r, exec i s = s.supervisorOnly r :=
  List.forall_iff_forall_mem.mp
    ⟨⟨_, rfl⟩, ⟨_, rfl⟩, ⟨_, rfl⟩, ⟨_, rfl⟩, ⟨_, rfl⟩, ⟨_, rfl⟩, ⟨_, rfl⟩, ⟨_, rfl⟩, ⟨_, rfl⟩, ⟨_, rfl⟩, ⟨_, rfl⟩, ⟨_, rfl⟩,
      ⟨_, rfl⟩, ⟨_, rfl⟩, ⟨_, rfl⟩, ⟨_, rfl⟩, ⟨_, rfl⟩, ⟨_, rfl⟩, ⟨_, rfl⟩⟩

/-- The value names no window, on numbers. -/
theorem badCwp_iff (v : Word) : badCwp v = true ↔ 8 ≤ (v.extractLsb' 0 5).toNat := decide_eq_true_iff

/-- WRPSR checks the window number before S (D18). -/
theorem wrpsr_of_user (hs : s.psr.s = false) (rs1 : RegNum) (op2 : Operand2) :
    exec (.wrpsr rs1 op2) s =
      s.raise (if 8 ≤ ((s.readReg rs1 ^^^ s.op2val op2).extractLsb' 0 5).toNat then .illegalInstruction
        else .privilegedInstruction) := by
  rw [exec_wrpsr, execWrpsr, supervisorOnly_of_user hs, State.writeValue]
  by_cases hv : badCwp (s.readReg rs1 ^^^ s.op2val op2) = true
  · rw [if_pos hv, if_pos ((badCwp_iff _).mp hv)]
  · rw [if_neg hv, if_neg fun h => hv ((badCwp_iff _).mpr h)]

/-- RETT checks ET before S (D16). -/
theorem rett_of_user (hs : s.psr.s = false) (rs1 : RegNum) (op2 : Operand2) :
    exec (.rett rs1 op2) s = s.raise (if s.psr.et then .illegalInstruction else .privilegedInstruction) := by
  rw [exec_rett, execRett, supervisorOnly_of_user hs]
  split <;> rfl

/-! ### No other instruction does -/

/-- The instructions that check S are the privileged ones. -/
theorem checksSupervisor_eq_false {i : Instr} (hp : ∀ rd rs1 rs2 op2 asi, i ∉ privilegedForms rd rs1 rs2 op2 asi)
    (hw : ∀ rs1 op2, i ≠ .wrpsr rs1 op2) (hr : ∀ rs1 op2, i ≠ .rett rs1 op2) : checksSupervisor i = false := by
  cases i with
  | rdpsr rd | rdwim rd | rdtbr rd => exact absurd (by simp [privilegedForms]) (hp rd 0#5 0#5 (.reg 0#5) 0#8)
  | wrwim rs1 op2 | wrtbr rs1 op2 => exact absurd (by simp [privilegedForms]) (hp 0#5 rs1 0#5 op2 0#8)
  | stdfq rd rs1 op2 | stdcq rd rs1 op2 => exact absurd (by simp [privilegedForms]) (hp rd rs1 0#5 op2 0#8)
  | lda rd rs1 asi rs2 | lduba rd rs1 asi rs2 | lduha rd rs1 asi rs2 | ldda rd rs1 asi rs2 | sta rd rs1 asi rs2
  | stba rd rs1 asi rs2 | stha rd rs1 asi rs2 | stda rd rs1 asi rs2 | ldsba rd rs1 asi rs2 | ldsha rd rs1 asi rs2
  | ldstuba rd rs1 asi rs2 | swapa rd rs1 asi rs2 =>
    exact absurd (by simp [privilegedForms]) (hp rd rs1 rs2 (.reg 0#5) asi)
  | wrpsr rs1 op2 => exact absurd rfl (hw rs1 op2)
  | rett rs1 op2 => exact absurd rfl (hr rs1 op2)
  | _ => rfl

/-- One trap only has type 3. -/
theorem privileged_of_tt {k : Trap} (h : k.tt = Trap.privilegedInstruction.tt) : k = .privilegedInstruction := by
  have high (n : BitVec 7) : 1#1 ++ n ≠ 3#8 := by revert n; decide
  have level (n : BitVec 4) : 1#4 ++ n ≠ 3#8 := by revert n; decide
  cases k with
  | privilegedInstruction => rfl
  | trapInstruction n => exact absurd h (high n)
  | interruptLevel n => exact absurd h (level n)
  | hardwareError e => cases e <;> exact absurd h (by decide)
  | _ => exact absurd h (by decide)

/-- The law for all meanings, for the type of privileged_instruction: an instruction that does not check S never enters with it. -/
theorem shape_neverPrivileged {i : Instr} (hi : checksSupervisor i = false) :
    Shape i (fun u => u.tt = s.tt) (State.NeverTakes .privilegedInstruction s) where
  request _ _ h := h
  writeReg _ _ _ h := h
  storeBytes _ _ _ _ h := h
  setFree _ _ h := h
  setUnit _ _ _ h _ := h
  complete _ h := neverTakes_of_tt_eq h
  flags _ _ h := neverTakes_of_tt_eq h
  multiply _ _ _ h := neverTakes_of_tt_eq h
  pulsed _ _ h := neverTakes_of_tt_eq h
  branch _ _ _ _ _ h := neverTakes_of_tt_eq h
  call _ _ h := neverTakes_of_tt_eq h
  jump _ _ h _ := neverTakes_of_tt_eq h
  closeBlock _ _ h := neverTakes_of_tt_eq h
  window _ _ _ _ h _ _ := neverTakes_of_tt_eq h
  returns _ _ h _ _ _ := neverTakes_of_tt_eq h
  wry _ _ h := neverTakes_of_tt_eq h
  wrpsr _ _ h _ := neverTakes_of_tt_eq h
  wrwim _ _ h _ := neverTakes_of_tt_eq h
  wrtbr _ _ h _ := neverTakes_of_tt_eq h
  trap u k _ _ _ hp := neverTakes_takeTrap (fun e => by simp [(hp (privileged_of_tt e)).1] at hi) u

/-- Settles O24. -/
theorem privilegedInstructions : Obligations.PrivilegedInstructions := by
  unfold Obligations.PrivilegedInstructions
  intro s hs
  refine ⟨fun rd rs1 rs2 op2 asi i hi => ?_, fun rs1 op2 => ?_, fun rs1 op2 => ?_, fun i hp hw hr t ht => ?_⟩
  · obtain ⟨r, e⟩ := privilegedForms_supervisorOnly s rd rs1 rs2 op2 asi i hi
    rw [e, supervisorOnly_of_user hs]
    exact exists_traps_raise _ s
  · rw [wrpsr_of_user hs]
    exact exists_traps_raise _ s
  · rw [rett_of_user hs]
    exact exists_traps_raise _ s
  · exact (exec_shape (shape_neverPrivileged (checksSupervisor_eq_false hp hw hr)) rfl).of_next ht

end Sys2Proof.Machine
end

section
/-! Parity of registers (rules R450, R457, R510). -/
namespace Sys2Proof.Machine

variable {s : State}

/-- The law for all meanings, for parity: writes make it right, and nothing makes it wrong. -/
theorem shape_parity (i : Instr) : Shape i State.ParityFaultFree State.ParityFaultFree where
  request _ _ h := h.of_eq rfl rfl
  writeReg _ n v h := h.writeRegIn _ n v
  storeBytes _ _ _ _ h := h.of_eq rfl rfl
  setFree _ _ h := h.of_eq rfl rfl
  setUnit _ _ _ h _ := h.of_eq rfl rfl
  complete _ h := h.of_eq rfl rfl
  flags _ _ h := h.of_eq rfl rfl
  multiply _ _ _ h := (h.wroteControl .y).of_eq rfl rfl
  pulsed _ _ h := h.of_eq rfl rfl
  branch _ _ _ _ _ h := h.of_eq rfl rfl
  call u _ h := (h.writeRegIn u.psr.cwp 15#5 u.pc).of_eq rfl rfl
  jump _ _ h _ := h.of_eq rfl rfl
  closeBlock _ _ h := h.of_eq rfl rfl
  window _ w rd v h _ _ := (h.writeRegIn w rd v).of_eq rfl rfl
  returns _ _ h _ _ _ := h.of_eq rfl rfl
  wry _ _ h := (h.wroteControl .y).of_eq rfl rfl
  wrpsr _ _ h _ := (h.wroteControl .psr).of_eq rfl rfl
  wrwim _ _ h _ := (h.wroteControl .wim).of_eq rfl rfl
  wrtbr _ _ h _ := (h.wroteControl .tbr).of_eq rfl rfl
  trap _ k h _ _ _ := h.takeTrap k

theorem State.ParityFaultFree.writeReg (h : s.ParityFaultFree) (n : RegNum) (v : Word) : (s.writeReg n v).ParityFaultFree :=
  h.writeRegIn s.psr.cwp n v

theorem State.ParityFaultFree.useFree (h : s.ParityFaultFree) (k : Nat) : (s.useFree k).ParityFaultFree := h.of_eq rfl rfl

theorem State.ParityFaultFree.takeHwError (h : s.ParityFaultFree) (e : HwError) : (s.takeHwError e).ParityFaultFree := by
  have ht := (h.of_eq (t := { s with inputs := { s.inputs with parityErrors := [] }, hwerror := s.hwerror.raised e s.pc })
    rfl rfl).takeTrap (.hardwareError e)
  unfold State.takeHwError
  split
  · exact ((ht.writeReg _ _).writeReg _ _).useFree 2
  · exact ht

theorem parityFaultFree_of_reaches {u : State} (h : s.ParityFaultFree) (hu : s.Reaches u) : u.ParityFaultFree := by
  rw [hu]
  exact h.of_eq rfl rfl

/-- On a machine without upsets every step leaves wrong parity bits only on registers that nothing has written. -/
theorem parityFaultFree_step {t : State} (h : s.ParityFaultFree) (hs : step s = .next t) : t.ParityFaultFree := by
  cases hh : s.inputs.halt with
  | true => exact Host.Outcome.next.inj ((step_halted hh).symm.trans hs) ▸ h
  | false =>
  cases hf : s.inputs.resetFault with
  | true => exact Host.Outcome.next.inj ((step_resetFault hh hf).symm.trans hs) ▸ h.of_eq rfl rfl
  | false =>
  cases hr : s.inputs.reset with
  | true => exact Host.Outcome.next.inj ((step_reset hh hf hr).symm.trans hs) ▸ h.of_eq rfl rfl
  | false =>
  cases hm : s.mode with
  | reset => exact Host.Outcome.next.inj ((step_leaveReset hh hf hr hm).symm.trans hs) ▸ h.of_eq rfl rfl
  | error => exact Host.Outcome.next.inj ((step_errorMode hh hr hm).symm.trans hs) ▸ h.of_eq rfl rfl
  | execute =>
    exact (yields_step_running (running_of_step hh hf hr hm hs) (P := State.ParityFaultFree) (h.of_eq rfl rfl)
      (fun _ e hu => (parityFaultFree_of_reaches h hu).takeHwError e)
      (fun _ k hu _ => (parityFaultFree_of_reaches h hu).takeTrap k)
      fun _ _ i hu => exec_shape (shape_parity i) ((parityFaultFree_of_reaches h hu).of_eq rfl rfl)).of_next hs

/-! ### Upsets -/

/-- A physical register by its number: what every name of it reads, r[0] excepted. -/
def State.physical (s : State) (i : Nat) : Word :=
  if h : i < 8 then s.globals[i] else if h' : i < 136 then s.windows[i - 8] else 0#32

theorem regIndex_lt (w : Window) (n : RegNum) : regIndex w n < 136 := by
  have := winIndex_lt w n
  unfold regIndex
  split <;> omega

/-- Only r[0] stands for physical register 0. -/
theorem regIndex_pos {w : Window} {n : RegNum} (h : n ≠ 0#5) : 0 < regIndex w n := by
  have : n.toNat ≠ 0 := fun e => h (BitVec.eq_of_toNat_eq e)
  unfold regIndex
  split <;> omega

theorem readRegIn_eq_physical (s : State) (w : Window) {n : RegNum} (h : n ≠ 0#5) :
    s.readRegIn w n = s.physical (regIndex w n) := by
  have := winIndex_lt w n
  unfold State.readRegIn State.physical regIndex
  by_cases hn : n.toNat < 8
  · simp [h, hn]
  · simp [h, hn, show 8 + winIndex w n < 136 by omega] <;> rfl

/-- An upset flips one bit of one physical register. -/
theorem physical_upsetReg {i : Nat} (h0 : 0 < i) (hi : i < 136) (b : BitVec 5) (j : Nat) :
    (s.upsetReg i b).physical j = if j = i then s.physical i ^^^ (1#32 <<< b.toNat) else s.physical j := by
  unfold State.upsetReg State.physical
  by_cases h8 : i < 8
  · by_cases e : j = i
    · subst e; simp [h0, h8]
    · simp [h0, h8, e, Ne.symm e]
  · by_cases e : j = i
    · subst e; simp [h8, hi, show 8 ≤ j by omega]
    · by_cases hj : j < 8
      · simp [h8, hi, show 8 ≤ i by omega, e, hj]
      · simp [h8, hi, show 8 ≤ i by omega, e, hj, show i - 8 ≠ j - 8 by omega]

/-- An upset turns the parity of that register and of no other. -/
theorem regParity_upsetReg {i : Nat} (h0 : 0 < i) (hi : i < 136) (b : BitVec 5) :
    (s.upsetReg i b).regParity = { s.regParity with bad := s.regParity.bad ^^^ ParityFlags.bit 136 i } := by
  unfold State.upsetReg
  by_cases h8 : i < 8
  · simp [h0, h8]
  · simp [h8, hi, show 8 ≤ i by omega]

theorem upsetReg_eq (s : State) (i : Nat) (b : BitVec 5) :
    s.upsetReg i b =
      { s with
        globals := (s.upsetReg i b).globals, windows := (s.upsetReg i b).windows, regParity := (s.upsetReg i b).regParity } := by
  unfold State.upsetReg
  split
  · rfl
  · split <;> rfl

theorem sameRegsBut_upsetReg {i : Nat} (h0 : 0 < i) (hi : i < 136) (b : BitVec 5) : s.SameRegsBut (s.upsetReg i b) [i] where
  value w n hn := by
    by_cases h : n = 0#5
    · simp [h, State.readRegIn]
    · rw [readRegIn_eq_physical _ _ h, readRegIn_eq_physical _ _ h, physical_upsetReg h0 hi, if_neg (by simpa using hn)]
  parity j hj := by
    have : i ≠ j := by simpa [eq_comm] using hj
    rw [regParity_upsetReg h0 hi]
    simp [getLsbD_bit, this]

/-- Settles O60: the laws for all meanings and all steps, for parity; what writes and upsets do to the flags. -/
theorem parityOfRegisters : Obligations.ParityOfRegisters := by
  unfold Obligations.ParityOfRegisters
  refine ⟨fun s t => parityFaultFree_step, fun s w h => h.sourceError_eq_none, fun s w n v h => ?_, fun s r => ?_,
    fun s w n b h => ?_⟩
  · rw [State.writeRegIn_regParity, if_neg h, bad_written, unwritten_written]
    simp
  · refine ⟨?_, ?_, sameBut_written _ _⟩
    · simp [bad_written]
    · simp [unwritten_written]
  · have h0 := regIndex_pos (w := w) h
    have hi := regIndex_lt w n
    refine ⟨?_, ?_, sameRegsBut_upsetReg h0 hi b, upsetReg_eq s _ b⟩
    · rw [readRegIn_eq_physical _ _ h, readRegIn_eq_physical _ _ h, physical_upsetReg h0 hi, if_pos rfl]
    · rw [regParity_upsetReg h0 hi, BitVec.getLsbD_xor, getLsbD_bit]
      simp [hi]

end Sys2Proof.Machine
end

section
/-! The events of a step: what it executes, what it consumes, what it takes instead (rule R485). -/
namespace Sys2Proof.Machine

variable {s : State}

/-! ### Executing the word at PC -/

/-- Nothing is written between fetch and data requests when no other master writes. -/
theorem otherMasters_of_none (h : s.inputs.busWrites = []) : s.otherMasters = s := by
  have e : ({ s.inputs with busWrites := [] } : Inputs) = s.inputs := by rw [← h]
  rw [State.otherMasters, h, e]
  rfl

/-- The step over a word that decodes and reads registers of right parity. -/
theorem step_of_decoded {i : Instr} (hs : s.Fetches) (hd : decodeWord s.fetchWord = .ok i)
    (hp : s.sourceError s.fetchWord = none) : step s = exec i s.quiet.fetched.otherMasters := by
  rw [step_executes hs, executeWord_ok]
  · rw [ir_fetched, fetchWord_quiet, hd]
  · rw [ir_fetched, fetchWord_quiet, sourceError_fetched, sourceError_quiet, hp]

/-- Settles O6. -/
theorem stepRunsDecoded : Obligations.StepRunsDecoded := by
  unfold Obligations.StepRunsDecoded
  intro s i hs hst hd hp
  rw [← fetchWord_of_stable hst] at hd hp
  refine ⟨?_, otherMasters_of_none, otherMasters_spec⟩
  rw [step_of_decoded hs hd hp, fetched_of_stable (s := s.quiet) hst]
  rfl

/-! The store history ages by one instruction with a fetch, which leaves memory alone. -/

theorem fetched_storeUndo1 (s : State) : s.fetched.storeUndo1 = [] := rfl

theorem fetched_storeUndo2 (s : State) : s.fetched.storeUndo2 = s.storeUndo1 := rfl

theorem fetched_mem (s : State) : s.fetched.mem = s.mem := rfl

/-- Settles O7. -/
theorem fetchSeesMemoryOrPrefetch : Obligations.FetchSeesMemoryOrPrefetch := by
  unfold Obligations.FetchSeesMemoryOrPrefetch
  intro s
  refine ⟨?_, fun h1 h2 => ?_, fetched_storeUndo1 _, (fetched_storeUndo2 _).trans (fetched_storeUndo1 s),
    (fetched_mem _).trans (fetched_mem s)⟩
  · rw [← wordNow_eq]
    unfold State.fetchWord
    split
    · simp
    · split
      · simp
      · split <;> simp
  · have hst : s.fetchStable = true := by
      simp [State.fetchStable, State.wordBeforeOne, State.wordBeforeTwo, State.wordNow, h1, h2]
    exact ⟨hst, fetchWord_of_stable hst⟩

/-! ### An annulled instruction -/

theorem fetchStable_quiet (s : State) : s.quiet.fetchStable = s.fetchStable := rfl

/-- The step over an annulled instruction, field by field. -/
theorem step_of_annul (h : s.Running) (ha : s.annul = true) :
    step s = .next
      { s with
        pc := s.npc
        npc := s.npc + 4#32
        annul := false
        afterCondBranch := false
        checksum := if sethiZero s.fetchWord then s.checksum else s.checksumWith s.fetchWord
        ir := s.fetchWord
        freeIdx := if s.fetchStable then s.freeIdx else s.freeIdx + 2
        bus := [s.fetchRequest]
        signals := [.inst, .inull] } := by
  rw [step_annulled h ha]
  simp only [State.annulStep, State.readInstr, fetchWord_quiet, fetchStable_quiet]
  rfl

/-- Settles O8. -/
theorem annulledStep : Obligations.AnnulledStep := by
  unfold Obligations.AnnulledStep
  intro s h ha
  refine ⟨_, step_of_annul h ha, rfl, rfl, rfl, sameRegsBut_of_eq rfl rfl rfl, rfl, rfl, sameMemory_of_mem rfl rfl,
    ⟨rfl, rfl, rfl, rfl, rfl, rfl, rfl, rfl, rfl, rfl⟩, ⟨rfl, rfl⟩, rfl, ⟨s.fetchRequest, rfl, rfl, rfl, rfl, rfl⟩, fun hf => ?_,
    fun hf => ?_⟩
  · show (if sethiZero s.fetchWord then s.checksum else s.checksumWith s.fetchWord) = s.checksum
    rw [State.checksumWith, hf, if_neg Bool.false_ne_true, ite_self]
  · show (if sethiZero s.fetchWord then s.checksum else s.checksumWith s.fetchWord) = _
    rw [State.checksumWith, hf, if_pos rfl]

/-! ### Interrupts -/

/-- The condition of rule R440. -/
theorem interruptPending_iff : s.interruptPending = true ↔
    s.psr.et = true ∧ s.inputs.irl ≠ 0#4 ∧ (s.inputs.irl = 15#4 ∨ s.psr.pil.toNat < s.inputs.irl.toNat) := by
  simp [State.interruptPending, BitVec.lt_def, and_assoc]

theorem interruptLevel_tt (n : BitVec 4) : (Trap.interruptLevel n).tt.toNat = 16 + n.toNat := by
  revert n; decide

/-- Settles O9. -/
theorem interruptAcceptance : Obligations.InterruptAcceptance := by
  unfold Obligations.InterruptAcceptance
  intro s h ha he
  refine ⟨fun hi => ?_, fun hi hr i hd hp => ?_⟩
  · have hmode : (s.quiet.takeTrap (.interruptLevel s.inputs.irl)).mode = .execute := by
      rw [State.takeTrap_mode, if_pos (by exact hi.1)]
      exact h.mode
    exact ⟨_, step_interrupt h ha he (interruptPending_iff.mpr hi), (traps_takeTrap _ _).of_before rfl, interruptLevel_tt _,
      hmode, by simp [Trap.signals]⟩
  · exact step_of_decoded ⟨h, ha, he, Bool.eq_false_iff.mpr fun hp => hi (interruptPending_iff.mp hp), hr⟩ hd hp

/-! ### HALT and RESET -/

/-- Settles O12. -/
theorem haltFreezes : Obligations.HaltFreezes := by
  unfold Obligations.HaltFreezes
  exact fun _ => step_halted

/-- Settles O13. -/
theorem resetSequence : Obligations.ResetSequence := by
  unfold Obligations.ResetSequence
  exact ⟨fun s hh hf hr => step_reset hh hf hr, fun s hh hf => ⟨_, step_resetFault hh hf, rfl, rfl⟩,
    fun s hh hf hr hm => ⟨_, step_leaveReset hh hf hr hm, rfl, rfl, rfl⟩⟩

/-- Settles O19: the values after power-up, and no register written. -/
theorem resetIsGood : Obligations.ResetIsGood := by
  unfold Obligations.ResetIsGood
  refine ⟨⟨rfl, rfl, wf_reset, ⟨nofun, nofun⟩, ⟨nofun, nofun⟩, by decide⟩, nofun, ⟨fun i h => ?_, fun i h => ?_⟩⟩
  · exact (BitVec.getLsbD_allOnes (v := 136)).trans (decide_eq_true (BitVec.lt_of_getLsbD h))
  · exact (BitVec.getLsbD_allOnes (v := 4)).trans (decide_eq_true (BitVec.lt_of_getLsbD h))

/-! ### Trap entry -/

/-- Settles O14. -/
theorem trapEntry : Obligations.TrapEntry := by
  unfold Obligations.TrapEntry
  intro k s
  refine ⟨_, raise_eq k s, traps_takeTrap k s, fun he => ?_, fun hm he => ?_, rfl, rfl, ?_, ?_⟩
  · rw [State.errorPin_iff, State.takeTrap_mode, he]
    rfl
  · rw [Bool.eq_false_iff, ne_eq, State.errorPin_iff, State.takeTrap_mode, if_pos he, hm]
    exact nofun
  all_goals
    rw [State.takeTrap_signals]
    exact List.mem_append_right _ (by cases k <;> simp [Trap.signals])

/-- Settles O15. -/
theorem trapTable : Obligations.TrapTable := by
  unfold Obligations.TrapTable
  exact ⟨rfl, fun n => ⟨by revert n; decide, rfl⟩, fun n _ => ⟨interruptLevel_tt n, rfl⟩, rfl, rfl⟩

end Sys2Proof.Machine
end

section
/-! Hardware errors at a boundary (rules R450 to R457). -/
namespace Sys2Proof.Machine

variable {s t u : State} {e : HwError} {w : Word}

/-- What HardwareErrorTaken says of the state in which the handler starts. -/
def State.HwErrorTaken (s t : State) (e : HwError) : Prop :=
  s.EnteredTrap t ∧ t.tt = e.tt ∧ t.hwerrorPin = true ∧
    (t.hwerror = if s.hwerror = .untilReset ∨ e = .nonRestartableImprecise then .untilReset else .untilResumed s.pc) ∧
    s.SameMemory t ∧ s.SameUnits t ∧ t.y = s.y ∧
    (e ≠ .nonRestartableImprecise → t.readReg 17#5 = s.pc ∧ t.readReg 18#5 = s.npc) ∧
    s.SameRegsBut t [regIndex (s.psr.cwp - 1#3) 17#5, regIndex (s.psr.cwp - 1#3) 18#5]

/-- A word that decodes reads a register whose wrong parity bit is this error. -/
def State.Flags (s : State) (w : Word) (e : HwError) : Prop :=
  (∃ i, decodeWord w = .ok i) ∧
    ((e = .registerFile ∧ ∃ n ∈ sourceRegs w, n ≠ 0#5 ∧ s.regParity.bad.getLsbD (regIndex s.psr.cwp n) = true) ∨
      ∃ r ∈ sourceControls w, e = r.error ∧ s.controlParity.bad.getLsbD r.index = true)

theorem flags_iff : s.Flags w e ↔ (∃ i, decodeWord w = .ok i) ∧ e ∈ s.sourceErrors w :=
  and_congr_right fun _ => mem_sourceErrors.symm

/-! ### Taking it -/

theorem State.hwerrorPin_eq : s.hwerrorPin = true ↔ s.hwerror ≠ .off := by
  rw [State.hwerrorPin]
  simp

/-- The instruction at PC being resumed does not change how long HWERROR then stays. -/
theorem raised_resumed (h : HwErrorLevel) (e : HwError) (pc : Word) : (h.resumed pc).raised e pc = h.raised e pc := by
  unfold HwErrorLevel.resumed
  split
  · next hp => subst hp; simp [HwErrorLevel.raised]
  · rfl

/-- A hardware error taken in place of the instruction at PC, HWERROR having been as before or just deasserted. -/
theorem hwErrorTaken_of_reaches (hu : s.Reaches u) (hh : u.hwerror.raised e s.pc = s.hwerror.raised e s.pc) :
    s.HwErrorTaken (u.takeHwError e) e := by
  have h := takesHwError_takeHwError e u
  have hpin : (u.takeHwError e).hwerrorPin = true := State.hwerrorPin_eq.mpr (h.hwerror ▸ raised_ne_off _ _ _)
  have hlevel : (u.takeHwError e).hwerror = s.hwerror.raised e s.pc := by
    rw [← hh, h.hwerror, show u.pc = s.pc by rw [hu]]
  have n := (sameProtected_of_reaches hu).ends_hwError e
  rw [hu] at h
  rw [hu] at hpin hlevel n ⊢
  exact ⟨n.entered, h.tt, hpin, hlevel, h.memory, ⟨h.units.fpu, h.units.cp⟩, h.y, h.saved, ⟨h.regs.value, h.regs.parity⟩⟩

/-! ### Which one -/

/-- The error detected at a boundary is that of one of the checked places, and none of these ranks higher. -/
theorem hwError_spec (h : s.hwError = some e) :
    (∃ x ∈ s.inputs.parityErrors, checksSite s.params x = true ∧ e = x.error) ∧
      ∀ x ∈ s.inputs.parityErrors, checksSite s.params x = true → e.priority ≤ x.error.priority := by
  obtain ⟨hmem, hmin⟩ := worstError_spec h
  simp only [List.mem_map, List.mem_filter] at hmem hmin
  obtain ⟨x, ⟨hx, hc⟩, rfl⟩ := hmem
  exact ⟨⟨x, hx, hc, rfl⟩, fun z hz hc' => hmin _ ⟨z, ⟨hz, hc'⟩, rfl⟩⟩

/-- A checked place with an error makes a hardware error. -/
theorem exists_hwError (h : ∃ x ∈ s.inputs.parityErrors, checksSite s.params x = true) : ∃ e, s.hwError = some e := by
  cases he : s.hwError with
  | some e => exact ⟨e, rfl⟩
  | none =>
    obtain ⟨x, hx, hc⟩ := h
    have := worstError_eq_none he
    simp only [List.map_eq_nil_iff, List.filter_eq_nil_iff] at this
    exact absurd hc (this x hx)

/-- A flagged register makes an error of the instruction. -/
theorem exists_sourceError (h : e ∈ s.sourceErrors w) : ∃ e', s.sourceError w = some e' := by
  cases he : s.sourceError w with
  | some e' => exact ⟨e', rfl⟩
  | none => exact absurd h (by rw [worstError_eq_none he]; exact List.not_mem_nil)

/-- The errors detected at a boundary: those of the checked places, and of the flagged registers if the fetch is accepted. -/
def State.Detects (s : State) (e : HwError) : Prop :=
  (∃ x ∈ s.inputs.parityErrors, checksSite s.params x = true ∧ e = x.error) ∨
    (s.refuses s.fetchRequest = false ∧ s.Flags s.fetchWord e)

/-- The error of this boundary, or a worse one of the registers that the fetched instruction reads. -/
def State.errorTaken (s : State) (e : HwError) : HwError :=
  if s.refuses s.fetchRequest then e else s.quiet.readInstr.errorAtPc e

/-- It is one of the detected errors, and none of these ranks higher. -/
theorem errorTaken_spec (h : s.hwError = some e) :
    s.Detects (s.errorTaken e) ∧ ∀ f, s.Detects f → (s.errorTaken e).priority ≤ f.priority := by
  obtain ⟨hsite, hmin⟩ := hwError_spec h
  unfold State.errorTaken State.Detects
  have other (hno : ∀ f, ¬(s.refuses s.fetchRequest = false ∧ s.Flags s.fetchWord f)) :
      s.Detects e ∧ ∀ f, s.Detects f → e.priority ≤ f.priority := by
    refine ⟨.inl hsite, fun f hf => ?_⟩
    obtain ⟨x, hx, hc, rfl⟩ := hf.resolve_right (hno f)
    exact hmin x hx hc
  by_cases hr : s.refuses s.fetchRequest = true
  · rw [if_pos hr]
    exact other fun f hf => absurd (hr.symm.trans hf.1) nofun
  · rw [if_neg hr]
    cases hd : decodeWord s.fetchWord with
    | error d =>
      have he : s.quiet.readInstr.errorAtPc e = e := by
        rw [State.errorAtPc, show s.quiet.readInstr.ir = s.fetchWord from rfl, hd]
      rw [he]
      refine other fun f hf => ?_
      obtain ⟨i, hi⟩ := hf.2.1
      exact nomatch hd.symm.trans hi
    | ok i =>
      obtain ⟨hmem, hle⟩ := errorAtPc_spec (s := s.quiet.readInstr) (i := i) (by exact hd) e
      refine ⟨?_, fun f hf => ?_⟩
      · rcases List.mem_cons.mp hmem with he | he
        · rw [he]
          exact .inl hsite
        · exact .inr ⟨Bool.eq_false_iff.mpr hr, flags_iff.mpr ⟨⟨i, hd⟩, he⟩⟩
      · rcases hf with ⟨x, hx, hc, rfl⟩ | ⟨-, hf⟩
        · exact (hle e List.mem_cons_self).trans (hmin x hx hc)
        · exact hle f (List.mem_cons_of_mem _ (flags_iff.mp hf).2)

/-- It is taken, and the events are consumed. -/
theorem hwErrorTaken_eventStep (s : State) (e : HwError) :
    s.HwErrorTaken (s.quiet.eventStep e) (s.errorTaken e) ∧ (s.quiet.eventStep e).inputs.parityErrors = [] := by
  unfold State.errorTaken State.eventStep
  by_cases hr : s.refuses s.fetchRequest = true
  · rw [if_pos hr, if_pos (show s.quiet.refuses s.quiet.fetchRequest = true from hr)]
    exact ⟨hwErrorTaken_of_reaches rfl rfl, by rw [(takesHwError_takeHwError _ _).inputs]⟩
  · rw [if_neg hr, if_neg (show ¬s.quiet.refuses s.quiet.fetchRequest = true from hr)]
    exact ⟨hwErrorTaken_of_reaches rfl rfl, by rw [(takesHwError_takeHwError _ _).inputs]⟩

/-! ### The obligation -/

/-- Settles O10: an error detected at the boundary, and one of the instruction's registers alone. -/
theorem hardwareErrorTaken : Obligations.HardwareErrorTaken := by
  unfold Obligations.HardwareErrorTaken
  refine ⟨fun s h ha hx => ?event, fun s h hst hflag => ?register⟩
  case event =>
    obtain ⟨e, he⟩ := exists_hwError hx
    obtain ⟨hdet, hmin⟩ := errorTaken_spec he
    refine ⟨s.errorTaken e, hdet, hmin, _, step_hwError h ha he, hwErrorTaken_eventStep s e⟩
  case register =>
    obtain ⟨f, hf⟩ := hflag
    obtain ⟨⟨i, hi⟩, hmem⟩ := flags_iff.mp hf
    obtain ⟨e, he⟩ := exists_sourceError hmem
    obtain ⟨hsource, hmin⟩ := worstError_spec he
    refine ⟨e, flags_iff.mpr ⟨⟨i, hi⟩, hsource⟩, fun f hf => hmin f (flags_iff.mp hf).2, _,
      (step_executes h).trans (executeWord_parity (i := i) (e := e) ?_ ?_), hwErrorTaken_of_reaches rfl (raised_resumed _ _ _)⟩
    · rw [ir_fetched, fetchWord_quiet, fetchWord_of_stable hst, hi]
    · rw [ir_fetched, fetchWord_quiet, fetchWord_of_stable hst, sourceError_fetched, sourceError_quiet, he]

end Sys2Proof.Machine
end

section
/-! Registers and operands. -/
namespace Sys2Proof.Machine

variable {s : State}

/-! ### The ring of windows (rules R22, R24) -/

/-- The ins of a window are the outs of the one above. -/
theorem regIndex_ins : ∀ (w : Window) (n : RegNum), 24 ≤ n.toNat → n - 16#5 ≠ 0#5 ∧ regIndex w n = regIndex (w + 1#3) (n - 16#5) := by
  decide

/-- Which names stand for the storage of a name: the same global, the same name of the same window, or the in and the out that two
neighbours share. -/
theorem regIndex_eq_iff_names (w w' : Window) (n n' : RegNum) :
    regIndex w' n' = regIndex w n ↔
      (n.toNat < 8 ∧ n' = n) ∨ (w' = w ∧ n' = n) ∨ (24 ≤ n.toNat ∧ w' = w + 1#3 ∧ n' = n - 16#5) ∨
        (24 ≤ n'.toNat ∧ w = w' + 1#3 ∧ n = n' - 16#5) := by
  rw [eq_comm, regIndex_eq_iff]
  unfold winIndex
  simp only [← BitVec.toNat_inj, BitVec.toNat_add, BitVec.toNat_sub, BitVec.toNat_ofNat]
  have := w.isLt
  have := w'.isLt
  have := n.isLt
  have := n'.isLt
  omega

/-- Settles O26. -/
theorem windowsOverlap : Obligations.WindowsOverlap := by
  unfold Obligations.WindowsOverlap
  intro s w w' n n' v
  refine ⟨fun h => ?_, fun h => ?_, ?_⟩
  · obtain ⟨h0, e⟩ := regIndex_ins w n h
    rw [readRegIn_eq_physical s _ h0, ← e, readRegIn_eq_physical s _ (by rintro rfl; exact absurd h (by decide))]
  · by_cases h0 : n = 0#5
    · simp [h0, State.readRegIn]
    · rw [readRegIn_eq_physical s _ h0, readRegIn_eq_physical s _ h0, regIndex, regIndex, if_pos h, if_pos h]
  · rw [readRegIn_writeRegIn]
    by_cases h0 : n' = 0#5
    · simp [h0, State.readRegIn]
    · simp only [ne_eq, h0, not_false_eq_true, true_and, if_false, regIndex_eq_iff_names w w' n n']

/-! ### Operands (rules R140 to R145, R200) -/

/-- Settles O27. -/
theorem operandForms : Obligations.OperandForms := by
  unfold Obligations.OperandForms
  intro s rs1 rs2 c op2 n
  refine ⟨rfl, BitVec.toInt_signExtend_of_le (by decide), BitVec.toNat_add _ _, BitVec.toNat_add _ _, ?_, rfl, ?_⟩
  · rw [State.shiftCount, BitVec.extractLsb'_toNat]
    rfl
  · rw [State.trapNumber, BitVec.extractLsb'_toNat, State.effAddr, BitVec.toNat_add, Nat.shiftRight_zero]
    omega

end Sys2Proof.Machine
end

section
/-! Logic, shifts, addition and subtraction, and their flags. -/
namespace Sys2Proof.Machine

variable {s : State} {i : Instr} {rd : RegNum} {v : Word}

/-! ### The two ends of a computing instruction -/

/-- An instruction that writes a register and completes. -/
theorem computed_writeReg (h : exec i s = (s.writeReg rd v).complete) :
    ∃ t, exec i s = .next t ∧ s.Computes t rd v s.psr s.y [] := ⟨_, h, computes_writeReg s rd v⟩

/-- An instruction that writes a register and the flags and completes. -/
theorem computed_setIcc {f : Icc} (h : exec i s = ((s.writeReg rd v).setIcc f).complete) :
    ∃ t, exec i s = .next t ∧ s.Computes t rd v { s.psr with icc := f } s.y [] := ⟨_, h, computes_setIcc s rd v f⟩

/-! ### Logic (rules R231, R241 to R252) -/

/-- Settles O28. -/
theorem logicalResults : Obligations.LogicalResults := by
  unfold Obligations.LogicalResults
  intro s rd rs1 op2
  exact List.forall_iff_forall_mem.mp ⟨computed_writeReg rfl, computed_writeReg rfl, computed_writeReg rfl, computed_writeReg rfl,
    computed_writeReg rfl, computed_writeReg rfl⟩

/-- The flags of a logical result. -/
theorem computed_logicCc (h : exec i s = s.logicCc rd v) :
    ∃ t f, exec i s = .next t ∧ s.Computes t rd v { s.psr with icc := f } s.y [] ∧ f.n = v.getLsbD 31 ∧
      (f.z = true ↔ v = 0#32) ∧ f.v = false ∧ f.c = false := by
  obtain ⟨t, e, c⟩ := computed_setIcc (f := iccLogic v) h
  exact ⟨t, iccLogic v, e, c, BitVec.msb_eq_getLsbD_last v, beq_iff_eq, rfl, rfl⟩

/-- Settles O29. -/
theorem logicalCcResults : Obligations.LogicalCcResults := by
  unfold Obligations.LogicalCcResults
  intro s rd rs1 op2
  exact List.forall_iff_forall_mem.mp ⟨computed_logicCc rfl, computed_logicCc rfl, computed_logicCc rfl, computed_logicCc rfl,
    computed_logicCc rfl, computed_logicCc rfl⟩

/-! ### Shifts (rules R253 to R255) -/

/-- Settles O30. -/
theorem shiftResults : Obligations.ShiftResults := by
  unfold Obligations.ShiftResults
  intro s rd rs1 cnt
  refine ⟨?sll, ?srl, ?sra⟩
  case sll =>
    refine ⟨_, _, rfl, computes_writeReg s rd _, ?_⟩
    rw [BitVec.toNat_shiftLeft, Nat.shiftLeft_eq]
  case srl =>
    refine ⟨_, _, rfl, computes_writeReg s rd _, ?_⟩
    rw [BitVec.toNat_ushiftRight, Nat.shiftRight_eq_div_pow]
  case sra =>
    refine ⟨_, _, rfl, computes_writeReg s rd _, ?_⟩
    rw [BitVec.toInt_sshiftRight, Int.shiftRight_eq_div_pow]
    rfl

/-! ### Addition and subtraction (rules R256 to R263) -/

/-- The carry as a signed number. -/
theorem ofInt_carry (c : Bool) : BitVec.ofInt 32 (if c then 1 else 0) = carryIn c := by cases c <;> rfl

theorem toNat_carryIn (c : Bool) : (carryIn c).toNat = if c then 1 else 0 := by cases c <;> rfl

/-- A word of a difference is the difference of the words. -/
theorem ofInt_sub (m n : Int) : BitVec.ofInt 32 (m - n) = BitVec.ofInt 32 m - BitVec.ofInt 32 n :=
  BitVec.eq_sub_iff_add_eq.mpr (by rw [← BitVec.ofInt_add, Int.sub_add_cancel])

/-- Settles O31. -/
theorem addSubResults : Obligations.AddSubResults := by
  unfold Obligations.AddSubResults
  intro s rd rs1 op2
  refine List.forall_iff_forall_mem.mp ⟨computed_writeReg ?add, computed_writeReg ?addx, computed_writeReg ?sub,
    computed_writeReg ?subx⟩
  case add => simp only [BitVec.ofInt_add, BitVec.ofInt_toInt]; rfl
  case addx => simp only [BitVec.ofInt_add, BitVec.ofInt_toInt, ofInt_carry]; rfl
  case sub => simp only [ofInt_sub, BitVec.ofInt_toInt]; rfl
  case subx => simp only [ofInt_sub, BitVec.ofInt_toInt, ofInt_carry]; rfl

/-- The flags N and Z of an addition are those of its result. -/
theorem iccAdd_nz (a b : Word) (c : Bool) :
    (iccAdd a b c).n = (a + b + carryIn c).getLsbD 31 ∧ ((iccAdd a b c).z = true ↔ a + b + carryIn c = 0#32) :=
  ⟨BitVec.msb_eq_getLsbD_last (w := 32) _, beq_iff_eq⟩

theorem iccSub_nz (a b : Word) (c : Bool) :
    (iccSub a b c).n = (a - b - carryIn c).getLsbD 31 ∧ ((iccSub a b c).z = true ↔ a - b - carryIn c = 0#32) :=
  ⟨BitVec.msb_eq_getLsbD_last (w := 32) _, beq_iff_eq⟩

/-- V of an addition, by signs (rule R232). -/
theorem iccAdd_v_sign (a b : Word) (c : Bool) : (iccAdd a b c).v = true ↔
    a.getLsbD 31 = b.getLsbD 31 ∧ (a + b + carryIn c).getLsbD 31 ≠ a.getLsbD 31 := by
  simp only [iccAdd, BitVec.msb_eq_getLsbD_last, Bool.and_eq_true, beq_iff_eq, bne_iff_ne]

theorem iccSub_v_sign (a b : Word) (c : Bool) : (iccSub a b c).v = true ↔
    a.getLsbD 31 ≠ b.getLsbD 31 ∧ (a - b - carryIn c).getLsbD 31 ≠ a.getLsbD 31 := by
  simp only [iccSub, BitVec.msb_eq_getLsbD_last, Bool.and_eq_true, bne_iff_ne]

/-- The signed number of a word from its unsigned one. -/
theorem toInt_cases (x : Word) :
    x.toNat < 2 ^ 31 ∧ x.toInt = x.toNat ∨ 2 ^ 31 ≤ x.toNat ∧ x.toInt = (x.toNat : Int) - 2 ^ 32 := by
  rw [BitVec.toInt_eq_toNat_cond]
  split <;> omega

/-- V of an addition, by numbers: the signed sum does not fit. -/
theorem iccAdd_v_overflow (a b : Word) (c : Bool) : (iccAdd a b c).v = true ↔
    a.toInt + b.toInt + ((if c then 1 else 0 : Nat) : Int) < -2 ^ 31 ∨
      2 ^ 31 ≤ a.toInt + b.toInt + ((if c then 1 else 0 : Nat) : Int) := by
  simp only [iccAdd, Bool.and_eq_true, beq_iff_eq, bne_iff_ne, BitVec.msb_eq_decide, decide_eq_decide,
    BitVec.toNat_add, toNat_carryIn, ne_eq]
  have := a.isLt
  have := b.isLt
  have := toInt_cases a
  have := toInt_cases b
  cases c <;> simp only [Bool.false_eq_true, if_true, if_false] <;> omega

/-- V of a subtraction, by numbers: the signed difference does not fit. -/
theorem iccSub_v_overflow (a b : Word) (c : Bool) : (iccSub a b c).v = true ↔
    a.toInt - b.toInt - ((if c then 1 else 0 : Nat) : Int) < -2 ^ 31 ∨
      2 ^ 31 ≤ a.toInt - b.toInt - ((if c then 1 else 0 : Nat) : Int) := by
  simp only [iccSub, Bool.and_eq_true, bne_iff_ne, BitVec.msb_eq_decide, decide_eq_decide,
    BitVec.toNat_sub, toNat_carryIn, ne_eq]
  have := a.isLt
  have := b.isLt
  have := toInt_cases a
  have := toInt_cases b
  cases c <;> simp only [Bool.false_eq_true, if_true, if_false] <;> omega

/-- C of an addition is the carry out of the unsigned sum. -/
theorem iccAdd_c (a b : Word) (c : Bool) :
    (iccAdd a b c).c = true ↔ 2 ^ 32 ≤ a.toNat + b.toNat + (if c then 1 else 0) := by
  rw [← toNat_carryIn]
  exact decide_eq_true_iff

/-- C of a subtraction is the borrow of the unsigned difference. -/
theorem iccSub_c (a b : Word) (c : Bool) : (iccSub a b c).c = true ↔ a.toNat < b.toNat + (if c then 1 else 0) := by
  rw [← toNat_carryIn]
  exact decide_eq_true_iff

/-- The unsigned sum modulo 2^32. -/
theorem toNat_add_carry (a b : Word) (c : Bool) :
    (a + b + carryIn c).toNat = (a.toNat + b.toNat + (if c then 1 else 0)) % 2 ^ 32 := by
  rw [BitVec.toNat_add, BitVec.toNat_add, toNat_carryIn, Nat.mod_add_mod]

/-- The difference of the unsigned numbers modulo 2^32. -/
theorem sub_carry_eq (a b : Word) (c : Bool) :
    a - b - carryIn c = BitVec.ofInt 32 ((a.toNat : Int) - b.toNat - ((if c then 1 else 0 : Nat) : Int)) := by
  have hn (x : Word) : BitVec.ofInt 32 (x.toNat : Int) = x := by rw [BitVec.ofInt_natCast, BitVec.ofNat_toNat, BitVec.setWidth_eq]
  rw [ofInt_sub, ofInt_sub, hn, hn, ← toNat_carryIn, hn]

/-- An addition that sets the flags. -/
theorem computed_addcc {a b : Word} {c : Bool} (h : exec i s = s.arithCc rd (a + b + carryIn c) (iccAdd a b c)) :
    ∃ t f res, exec i s = .next t ∧ s.Computes t rd res { s.psr with icc := f } s.y [] ∧
      res.toNat = (a.toNat + b.toNat + (if c then 1 else 0)) % 2 ^ 32 ∧ f.n = res.getLsbD 31 ∧ (f.z = true ↔ res = 0#32) ∧
      (f.v = true ↔ a.getLsbD 31 = b.getLsbD 31 ∧ res.getLsbD 31 ≠ a.getLsbD 31) ∧
      (f.v = true ↔ a.toInt + b.toInt + ((if c then 1 else 0 : Nat) : Int) < -2 ^ 31 ∨
        2 ^ 31 ≤ a.toInt + b.toInt + ((if c then 1 else 0 : Nat) : Int)) ∧
      (f.c = true ↔ 2 ^ 32 ≤ a.toNat + b.toNat + (if c then 1 else 0)) := by
  obtain ⟨t, e, comp⟩ := computed_setIcc h
  exact ⟨t, _, _, e, comp, toNat_add_carry a b c, (iccAdd_nz a b c).1, (iccAdd_nz a b c).2, iccAdd_v_sign a b c,
    iccAdd_v_overflow a b c, iccAdd_c a b c⟩

/-- A subtraction that sets the flags. -/
theorem computed_subcc {a b : Word} {c : Bool} (h : exec i s = s.arithCc rd (a - b - carryIn c) (iccSub a b c)) :
    ∃ t f res, exec i s = .next t ∧ s.Computes t rd res { s.psr with icc := f } s.y [] ∧
      res = BitVec.ofInt 32 ((a.toNat : Int) - b.toNat - ((if c then 1 else 0 : Nat) : Int)) ∧ f.n = res.getLsbD 31 ∧
      (f.z = true ↔ res = 0#32) ∧ (f.v = true ↔ a.getLsbD 31 ≠ b.getLsbD 31 ∧ res.getLsbD 31 ≠ a.getLsbD 31) ∧
      (f.v = true ↔ a.toInt - b.toInt - ((if c then 1 else 0 : Nat) : Int) < -2 ^ 31 ∨
        2 ^ 31 ≤ a.toInt - b.toInt - ((if c then 1 else 0 : Nat) : Int)) ∧
      (f.c = true ↔ a.toNat < b.toNat + (if c then 1 else 0)) := by
  obtain ⟨t, e, comp⟩ := computed_setIcc h
  exact ⟨t, _, _, e, comp, sub_carry_eq a b c, (iccSub_nz a b c).1, (iccSub_nz a b c).2, iccSub_v_sign a b c,
    iccSub_v_overflow a b c, iccSub_c a b c⟩

theorem add_no_carry (a b : Word) : a + b + carryIn false = a + b := BitVec.add_zero _

theorem sub_no_carry (a b : Word) : a - b - carryIn false = a - b := BitVec.sub_zero _

/-- Settles O32. -/
theorem addCcResults : Obligations.AddCcResults := by
  unfold Obligations.AddCcResults
  intro s rd rs1 op2
  exact List.forall_iff_forall_mem.mp ⟨computed_addcc (by rw [add_no_carry]; rfl), computed_addcc rfl⟩

/-- Settles O33. -/
theorem subCcResults : Obligations.SubCcResults := by
  unfold Obligations.SubCcResults
  intro s rd rs1 op2
  exact List.forall_iff_forall_mem.mp ⟨computed_subcc (by rw [sub_no_carry]; rfl), computed_subcc rfl⟩

end Sys2Proof.Machine
end

section
/-! Tagged arithmetic, the multiply step, SETHI and the flow check. -/
namespace Sys2Proof.Machine

variable {s : State} {rd : RegNum}

/-! ### Tagged arithmetic (rules R264 to R267) -/

theorem tagged_iff (a b : Word) : tagged a b = true ↔ a.extractLsb' 0 2 ≠ 0#2 ∨ b.extractLsb' 0 2 ≠ 0#2 := by
  simp only [tagged, Bool.or_eq_true, bne_iff_ne]

/-- V of a tagged addition: a nonzero tag, or the signed sum does not fit. -/
theorem iccTaggedAdd_v (a b : Word) : (iccTaggedAdd a b).v = true ↔
    a.extractLsb' 0 2 ≠ 0#2 ∨ b.extractLsb' 0 2 ≠ 0#2 ∨ a.toInt + b.toInt < -2 ^ 31 ∨ 2 ^ 31 ≤ a.toInt + b.toInt := by
  have hv := iccAdd_v_overflow a b false
  simp only [Bool.false_eq_true, if_false, Int.natCast_zero, Int.add_zero] at hv
  rw [iccTaggedAdd, Bool.or_eq_true, hv, tagged_iff, or_comm, or_assoc]

theorem iccTaggedSub_v (a b : Word) : (iccTaggedSub a b).v = true ↔
    a.extractLsb' 0 2 ≠ 0#2 ∨ b.extractLsb' 0 2 ≠ 0#2 ∨ a.toInt - b.toInt < -2 ^ 31 ∨ 2 ^ 31 ≤ a.toInt - b.toInt := by
  have hv := iccSub_v_overflow a b false
  simp only [Bool.false_eq_true, if_false, Int.natCast_zero, Int.sub_zero] at hv
  rw [iccTaggedSub, Bool.or_eq_true, hv, tagged_iff, or_comm, or_assoc]

/-- A tagged instruction and its trapping form, from the flags that both compute. -/
theorem tagged_ends {i j : Instr} {res : Word} {f : Icc} {overflow : Prop} {c : Bool} (hi : exec i s = s.arithCc rd res f)
    (hj : exec j s = s.taggedTv rd res f) (hn : f.n = res.getLsbD 31) (hz : f.z = true ↔ res = 0#32)
    (hv : f.v = true ↔ overflow) (hc : f.c = c) :
    (∃ t f, exec i s = .next t ∧ s.Computes t rd res { s.psr with icc := f } s.y [] ∧ f.n = res.getLsbD 31 ∧
        (f.z = true ↔ res = 0#32) ∧ (f.v = true ↔ overflow) ∧ f.c = c) ∧
      (¬overflow → ∃ t f, exec j s = .next t ∧ s.Computes t rd res { s.psr with icc := f } s.y [] ∧
        f.n = res.getLsbD 31 ∧ (f.z = true ↔ res = 0#32) ∧ f.v = false ∧ f.c = c) ∧
      (overflow → ∃ t, exec j s = .next t ∧ State.Traps .tagOverflow s t) := by
  refine ⟨⟨_, f, hi, computes_setIcc s rd res f, hn, hz, hv, hc⟩, fun ho => ?_, fun ho => ?_⟩
  · have hf : f.v = false := Bool.eq_false_iff.mpr fun h => ho (hv.mp h)
    rw [hj, State.taggedTv, hf, if_neg Bool.false_ne_true]
    exact ⟨_, f, rfl, computes_setIcc s rd res f, hn, hz, hf, hc⟩
  · rw [hj, State.taggedTv, hv.mpr ho, if_pos rfl]
    exact exists_traps_raise _ s

/-- Settles O34. -/
theorem taggedResults : Obligations.TaggedResults := by
  unfold Obligations.TaggedResults
  intro s rd rs1 op2 a b
  refine List.forall_iff_forall_mem.mp
    ⟨tagged_ends (exec_taddcc ..) (exec_taddcctv ..) ?_ ?_ (iccTaggedAdd_v a b) ?_,
      tagged_ends (exec_tsubcc ..) (exec_tsubcctv ..) ?_ ?_ (iccTaggedSub_v a b) ?_⟩
  · exact add_no_carry a b ▸ (iccAdd_nz a b false).1
  · exact add_no_carry a b ▸ (iccAdd_nz a b false).2
  · rfl
  · exact sub_no_carry a b ▸ (iccSub_nz a b false).1
  · exact sub_no_carry a b ▸ (iccSub_nz a b false).2
  · rfl

/-! ### The multiply step (rule R270) -/

/-- The number of two bit fields side by side. -/
theorem toNat_append_add {m n : Nat} (x : BitVec m) (z : BitVec n) : (x ++ z).toNat = x.toNat * 2 ^ n + z.toNat := by
  rw [BitVec.toNat_append, ← Nat.shiftLeft_add_eq_or_of_lt z.isLt, Nat.shiftLeft_eq]

theorem toNat_mulStepOp1 (f : Icc) (a : Word) :
    (mulStepOp1 f a).toNat = a.toNat / 2 + (if f.n = f.v then 0 else 2 ^ 31) := by
  have := a.isLt
  rw [mulStepOp1, toNat_append_add, BitVec.extractLsb'_toNat, Nat.shiftRight_eq_div_pow, BitVec.toNat_ofBool]
  cases f.n <;> cases f.v <;> simp <;> omega

theorem toNat_mulStepOp2 (y b : Word) : (mulStepOp2 y b).toNat = if y.toNat % 2 = 1 then b.toNat else 0 := by
  have hbit : y.getLsbD 0 = decide (y.toNat % 2 = 1) := by
    rw [BitVec.getLsbD, Nat.testBit_zero]
  rw [mulStepOp2, hbit]
  by_cases h : y.toNat % 2 = 1 <;> simp [h]

theorem mulStepY_eq (y a : Word) : mulStepY y a = BitVec.ofNat 32 (y.toNat / 2 + a.toNat % 2 * 2 ^ 31) := by
  have := y.isLt
  apply BitVec.eq_of_toNat_eq
  rw [mulStepY, toNat_append_add, BitVec.extractLsb'_toNat, BitVec.extractLsb'_toNat, Nat.shiftRight_eq_div_pow,
    Nat.shiftRight_eq_div_pow, BitVec.toNat_ofNat]
  omega

/-- The sign bit of a word, on its number. -/
theorem getLsbD_sign (x : Word) : x.getLsbD 31 = true ↔ 2 ^ 31 ≤ x.toNat := by
  rw [← BitVec.msb_eq_getLsbD_last (w := 32), BitVec.msb_eq_decide, decide_eq_true_iff]

theorem sameSign_iff (x z : Word) : x.getLsbD 31 = z.getLsbD 31 ↔ (2 ^ 31 ≤ x.toNat ↔ 2 ^ 31 ≤ z.toNat) := by
  rw [Bool.eq_iff_iff, getLsbD_sign, getLsbD_sign]

/-- V of an addition, by the signs of numbers. -/
theorem iccAdd_v_numbers (x z : Word) : (iccAdd x z false).v = true ↔
    (2 ^ 31 ≤ x.toNat ↔ 2 ^ 31 ≤ z.toNat) ∧ ¬(2 ^ 31 ≤ (x.toNat + z.toNat) % 2 ^ 32 ↔ 2 ^ 31 ≤ x.toNat) := by
  rw [iccAdd_v_sign, add_no_carry, ne_eq, sameSign_iff, sameSign_iff, BitVec.toNat_add]

/-- The end of the multiply step. -/
theorem computes_multiply (s : State) (rd : RegNum) (v : Word) (f : Icc) (yv : Word) :
    (s.wroteControl .y).Computes
      (State.wroteControl { (s.writeReg rd v).setIcc f with y := yv } .y).retire.advance rd v { s.psr with icc := f } yv [] :=
  computes_of_fields rfl rfl rfl rfl rfl rfl ⟨rfl, rfl, rfl, rfl, rfl, rfl, rfl, rfl, rfl, rfl⟩ ⟨rfl, rfl⟩
    (List.append_nil _).symm rfl ⟨rfl, rfl, rfl, rfl⟩

/-- Settles O35: the operands, on numbers, and the flags of their addition. -/
theorem multiplyStep : Obligations.MultiplyStep := by
  unfold Obligations.MultiplyStep
  intro s rd rs1 op2 a x z
  have hx : (mulStepOp1 s.psr.icc a).toNat = x := toNat_mulStepOp1 _ _
  have hz : (mulStepOp2 s.y (s.op2val op2)).toNat = z := toNat_mulStepOp2 _ _
  have hnz := iccAdd_nz (mulStepOp1 s.psr.icc a) (mulStepOp2 s.y (s.op2val op2)) false
  rw [add_no_carry] at hnz
  refine ⟨_, _, _, exec_mulscc .., mulStepY_eq s.y a ▸ computes_multiply s rd _ _ _, ?_, hnz.1, hnz.2, ?_, ?_⟩
  · rw [BitVec.toNat_add, hx, hz]
  · rw [iccAdd_c, hx, hz]
    simp
  · rw [iccAdd_v_numbers, hx, hz]

/-! ### SETHI (rules R144, R240) -/

theorem sethiValue_eq (c : BitVec 22) : sethiValue c = BitVec.ofNat 32 (c.toNat * 1024) := by
  apply BitVec.eq_of_toNat_eq
  have := c.isLt
  rw [sethiValue, toNat_append_add, BitVec.toNat_ofNat, BitVec.toNat_ofNat]
  omega

/-- Settles O36. -/
theorem sethiResult : Obligations.SethiResult := by
  unfold Obligations.SethiResult
  intro s rd imm22 h
  refine computed_writeReg ?_
  rw [exec_sethi, execSethi, if_neg (by rintro ⟨hr, hf⟩; simp [hr, hf] at h), sethiValue_eq]

/-! ### The flow check (rules R462 to R466) -/

/-- SETHI to r[0] with Program Flow Control on. -/
theorem exec_sethi_zero (hf : s.params.flowEnabled = true) (c : BitVec 22) : exec (.sethi 0#5 c) s = s.checkFlow c := by
  rw [exec_sethi, execSethi, if_pos ⟨rfl, hf⟩]

/-- A field or-ed in above the low half. -/
theorem append_or_shift (hi : BitVec 16) (tag : BitVec 6) (sig : BitVec 16) :
    hi ++ sig ||| (tag.zeroExtend 32 <<< 16) = (hi ||| tag.zeroExtend 16) ++ sig := by
  apply BitVec.eq_of_getLsbD_eq
  intro i h
  simp only [BitVec.getLsbD_or, BitVec.getLsbD_append, BitVec.getLsbD_shiftLeft, BitVec.zeroExtend, BitVec.getLsbD_setWidth, h]
  by_cases h16 : i < 16
  · simp [h16]
  · have : i - 16 < 16 := by omega
    have : i - 16 < 32 := by omega
    simp [*]

/-- The checking word is the SETHI to r[0] of tag and signature. -/
theorem checkWord_eq (p : Params) (sig : BitVec 16) : checkWord p sig = encode (.sethi 0#5 (p.pfcTag6 ++ sig)) := by
  have htag : ∀ tag : BitVec 6, 0x0100#16 ||| tag.zeroExtend 16 = 0#2 ++ 0#5 ++ 4#3 ++ tag := by decide
  show 0x0100#16 ++ sig ||| (p.pfcTag6.zeroExtend 32 <<< 16) = 0#2 ++ 0#5 ++ 4#3 ++ (p.pfcTag6 ++ sig)
  rw [append_or_shift, htag, BitVec.append_assoc]
  rfl

/-- Its constant carries the tag above the signature, and is not zero. -/
theorem taggedConstant_append {p : Params} (sig : BitVec 16) (ht : p.pfcTag6 ≠ 0#6) :
    taggedConstant p (p.pfcTag6 ++ sig) = true ∧ p.pfcTag6 ++ sig ≠ 0#22 ∧ (p.pfcTag6 ++ sig).extractLsb' 0 16 = sig := by
  have hi : (p.pfcTag6 ++ sig).extractLsb' 16 6 = p.pfcTag6 := BitVec.extractLsb'_append_eq_left
  have lo : (p.pfcTag6 ++ sig).extractLsb' 0 16 = sig := BitVec.extractLsb'_append_eq_right
  refine ⟨beq_iff_eq.mpr hi, fun e => ht ?_, lo⟩
  rw [← hi, e]
  rfl

/-- Settles O37. -/
theorem flowCheck : Obligations.FlowCheck := by
  unfold Obligations.FlowCheck
  intro s imm22 hf
  refine ⟨?_, fun hc h => ?_, fun hc hs hm => ?_, fun sig ht => ⟨?_, taggedConstant_append sig ht⟩⟩
  · rw [exec_sethi_zero hf, State.checkFlow, if_pos rfl]
    rfl
  · rw [exec_sethi_zero hf, State.checkFlow, if_neg hc, if_pos (by simpa [signature] using h)]
    rfl
  · rw [exec_sethi_zero hf, State.checkFlow, if_neg hc, if_neg (by simpa [signature, hs] using hm)]
    exact ⟨_, rfl, traps_takeTrap _ s, rfl, by simp [hf], rfl⟩
  · rw [checkWord_eq, decodeWord_encode rfl]

end Sys2Proof.Machine
end

section
/-! Windows, control transfers, traps on condition, control registers. -/
namespace Sys2Proof.Machine

variable {s : State}

/-! ### SAVE and RESTORE (rules R280, R281) -/

/-- A window made current, and a register of it written. -/
theorem computes_window (s : State) (w : Window) (rd : RegNum) (v : Word) :
    s.Computes ((s.setCwp w).writeReg rd v).retire.advance rd v { s.psr with cwp := w } s.y [] :=
  computes_of_fields rfl rfl rfl rfl rfl rfl ⟨rfl, rfl, rfl, rfl, rfl, rfl, rfl, rfl, rfl, rfl⟩ ⟨rfl, rfl⟩
    (List.append_nil _).symm rfl ⟨rfl, rfl, rfl, rfl⟩

/-- The window moves, or its bit in WIM traps. -/
theorem enterWindow_ends (s : State) (w : Window) (k : Trap) (rd : RegNum) (v : Word) :
    (s.wim.getLsbD w.toNat = false → ∃ t, s.enterWindow w k rd v = .next t ∧
        s.Computes t rd v { s.psr with cwp := w } s.y [] ∧ t.readRegIn w rd = if rd = 0#5 then 0#32 else v) ∧
      (s.wim.getLsbD w.toNat = true → ∃ t, s.enterWindow w k rd v = .next t ∧ State.Traps k s t) := by
  refine ⟨fun h => ?_, fun h => ?_⟩
  · rw [State.enterWindow, State.windowInvalid, h, if_neg Bool.false_ne_true]
    exact ⟨_, rfl, computes_window s w rd v, (computes_window s w rd v).result⟩
  · rw [State.enterWindow, State.windowInvalid, h, if_pos rfl]
    exact exists_traps_raise k s

/-- Settles O38. -/
theorem saveRestore : Obligations.SaveRestore := by
  unfold Obligations.SaveRestore
  intro s rd rs1 op2
  exact List.forall_iff_forall_mem.mp ⟨enterWindow_ends s _ _ rd _, enterWindow_ends s _ _ rd _⟩

/-! ### Branches and Ticc on the integer condition codes (rules R296, R300, R301, R325) -/

/-- Three tests that the model writes as the negation of their opposite. -/
theorem iccTest_greater (f : Icc) : iccTest 10#4 f = (!f.z && (f.n == f.v)) := by
  obtain ⟨n, z, v, c⟩ := f
  revert n z v
  decide +revert

theorem iccTest_greaterOrEqual (f : Icc) : iccTest 11#4 f = (f.n == f.v) := by
  obtain ⟨n, z, v, c⟩ := f
  revert n v
  decide +revert

theorem iccTest_greaterUnsigned (f : Icc) : iccTest 12#4 f = (!f.c && !f.z) := Bool.not_or _ _

/-- A branch whose test is decided, from the branch base. -/
theorem branch_ends {i : Instr} {cond : BitVec 4} {taken taken' always a : Bool} {d : BitVec 22}
    (h : exec i s = .next (s.branch cond taken a d)) (ht : taken = taken') (hal : always = condAlways cond) :
    ∃ t, exec i s = .next t ∧ s.Branches t taken' always a (s.branchBase + BitVec.ofInt 32 (4 * d.toInt)) :=
  ⟨_, h, ht ▸ hal ▸ branches_branch s cond taken a d⟩

/-- Settles O39. -/
theorem iccBranches : Obligations.IccBranches := by
  unfold Obligations.IccBranches
  intro s a d f base
  exact List.forall_iff_forall_mem.mp
    ⟨branch_ends (exec_bn ..) rfl rfl, branch_ends (exec_be ..) rfl rfl, branch_ends (exec_ble ..) rfl rfl,
      branch_ends (exec_bl ..) rfl rfl, branch_ends (exec_bleu ..) rfl rfl, branch_ends (exec_bcs ..) rfl rfl,
      branch_ends (exec_bneg ..) rfl rfl, branch_ends (exec_bvs ..) rfl rfl,
      branch_ends (exec_ba ..) rfl (beq_self_eq_true _), branch_ends (exec_bne ..) rfl rfl,
      branch_ends (exec_bg ..) (iccTest_greater f) rfl, branch_ends (exec_bge ..) (iccTest_greaterOrEqual f) rfl,
      branch_ends (exec_bgu ..) (iccTest_greaterUnsigned f) rfl, branch_ends (exec_bcc ..) rfl rfl,
      branch_ends (exec_bpos ..) rfl rfl, branch_ends (exec_bvc ..) rfl rfl⟩

/-- The type of a software trap. -/
theorem trapInstruction_tt (x : Word) : (Trap.trapInstruction (x.extractLsb' 0 7)).tt.toNat = 128 + x.toNat % 128 := by
  rw [Trap.tt, toNat_append_add, BitVec.extractLsb'_toNat]
  rfl

/-- A Ticc whose test is decided. -/
theorem ticc_ends {i : Instr} {cond : BitVec 4} {rs1 : RegNum} {op2 : Operand2} {taken : Bool}
    (h : exec i s = s.trapIcc cond rs1 op2) (ht : iccTest cond s.psr.icc = taken) :
    ∃ t, exec i s = .next t ∧
      if taken then
        State.Traps (.trapInstruction ((s.readReg rs1 + s.op2val op2).extractLsb' 0 7)) s t ∧
          t.tt.toNat = 128 + (s.readReg rs1 + s.op2val op2).toNat % 128
      else s.Computes t 0#5 0#32 s.psr s.y [] := by
  rw [h, State.trapIcc, ht]
  cases taken with
  | false => exact ⟨_, rfl, computes_nothing s⟩
  | true => exact ⟨_, rfl, traps_takeTrap _ s, trapInstruction_tt _⟩

/-- Settles O44. -/
theorem ticcResults : Obligations.TiccResults := by
  unfold Obligations.TiccResults
  intro s rs1 op2 f
  exact List.forall_iff_forall_mem.mp
    ⟨ticc_ends (exec_tn ..) rfl, ticc_ends (exec_te ..) rfl, ticc_ends (exec_tle ..) rfl, ticc_ends (exec_tl ..) rfl,
      ticc_ends (exec_tleu ..) rfl, ticc_ends (exec_tcs ..) rfl, ticc_ends (exec_tneg ..) rfl, ticc_ends (exec_tvs ..) rfl,
      ticc_ends (exec_ta ..) rfl, ticc_ends (exec_tne ..) rfl, ticc_ends (exec_tg ..) (iccTest_greater f),
      ticc_ends (exec_tge ..) (iccTest_greaterOrEqual f), ticc_ends (exec_tgu ..) (iccTest_greaterUnsigned f),
      ticc_ends (exec_tcc ..) rfl, ticc_ends (exec_tpos ..) rfl, ticc_ends (exec_tvc ..) rfl⟩

/-! ### CALL, JMPL, RETT (rules R310, R318, R320) -/

/-- Settles O42. -/
theorem callAndJmpl : Obligations.CallAndJmpl := by
  unfold Obligations.CallAndJmpl
  intro s disp30 rd rs1 op2 base target
  refine ⟨⟨_, exec_call .., ?_⟩, fun h => ?_, fun h => ?_⟩
  · show s.Jumps _ 15#5 s.pc (s.branchBase + BitVec.ofNat 32 (4 * disp30.toNat))
    rw [← callTarget_eq]
    exact jumps_writeReg s 15#5 s.pc _
  · rw [exec_jmpl, execJmpl, whenAligned_of_aligned ((aligned_word_iff (s.effAddr rs1 op2)).mpr h)]
    exact ⟨_, rfl, jumps_writeReg s rd s.pc _⟩
  · rw [exec_jmpl, execJmpl, whenAligned_of_misaligned ((misaligned_word_iff (s.effAddr rs1 op2)).mpr h)]
    exact exists_traps_raise _ s

/-- A completed RETT is a jump from the state it returns to. -/
theorem jumps_returnFromTrap (s : State) (target : Word) :
    State.Jumps
      { s with
        psr := { s.psr with cwp := s.psr.cwp + 1#3, et := true, s := s.psr.ps }
        pfcSkip := s.pfcSkip || s.params.flowEnabled }
      (s.returnFromTrap target) 0#5 0#32 target where
  result := rfl
  regs := sameRegsBut_of_eq rfl rfl rfl
  psr := rfl
  y := rfl
  memory := fun _ _ => rfl
  control := ⟨rfl, rfl, rfl, rfl, rfl, Bool.or_comm _ _, rfl, rfl, rfl, rfl⟩
  units := ⟨rfl, rfl⟩
  bus := ⟨(List.append_nil _).symm, rfl⟩
  ends :=
    have h := endsInTransfer_transfer s target
    ⟨h.pc, h.npc, h.pcAligned, h.npcAligned, h.checksum⟩
  annul := rfl
  afterCondBranch := rfl

/-- With ET = 0 a trap ends in error mode. -/
theorem raise_errorMode (h : s.psr.et = false) (k : Trap) :
    ∃ t, s.raise k = .next t ∧ State.Traps k s t ∧ t.mode = .error := by
  refine ⟨_, raise_eq k s, traps_takeTrap k s, ?_⟩
  rw [State.takeTrap_mode, h, if_neg Bool.false_ne_true]

/-- RETT with ET = 0. -/
theorem exec_rett_disabled (h : s.psr.et = false) (rs1 : RegNum) (op2 : Operand2) :
    exec (.rett rs1 op2) s = s.supervisorOnly
      (if s.windowInvalid (s.psr.cwp + 1#3) then s.raise .windowUnderflow
        else s.whenAligned .word (s.effAddr rs1 op2) (.next (s.returnFromTrap (s.effAddr rs1 op2)))) := by
  rw [exec_rett, execRett, h, if_neg Bool.false_ne_true]

theorem windowInvalid_of {w : Window} {b : Bool} (h : s.wim.getLsbD w.toNat = b) : s.windowInvalid w = b := h

/-- Settles O43: the checks in the order of rule R410. -/
theorem rettResult : Obligations.RettResult := by
  unfold Obligations.RettResult
  intro s rs1 op2 target invalid
  refine ⟨fun het hs hw ha => ?_, fun het => ?_, fun het => ⟨fun hs => ?_, fun hs hw => ?_, fun hs hw ha => ?_⟩⟩
  · rw [exec_rett_disabled het, supervisorOnly_of_supervisor hs, windowInvalid_of hw, if_neg Bool.false_ne_true,
      whenAligned_of_aligned ((aligned_word_iff (s.effAddr rs1 op2)).mpr ha)]
    exact ⟨_, rfl, jumps_returnFromTrap s target⟩
  · rw [exec_rett, execRett, het, if_pos rfl]
    exact exists_traps_raise _ s
  · rw [exec_rett_disabled het, supervisorOnly_of_user hs]
    exact raise_errorMode het _
  · rw [exec_rett_disabled het, supervisorOnly_of_supervisor hs, windowInvalid_of hw, if_pos rfl]
    exact raise_errorMode het _
  · rw [exec_rett_disabled het, supervisorOnly_of_supervisor hs, windowInvalid_of hw, if_neg Bool.false_ne_true,
      whenAligned_of_misaligned ((misaligned_word_iff (s.effAddr rs1 op2)).mpr ha)]
    exact raise_errorMode het _

/-- Settles O59. -/
theorem unimpIflush : Obligations.UnimpIflush := by
  unfold Obligations.UnimpIflush
  intro s c rs1 op2
  refine ⟨exists_traps_raise _ s, rfl, fun h => ?_, fun h => ?_⟩
  · rw [exec_iflush, execIflush, h, if_pos rfl]
    exact exists_traps_raise _ s
  · rw [exec_iflush, execIflush, h, if_neg Bool.false_ne_true]
    exact ⟨_, rfl, computes_nothing s⟩

end Sys2Proof.Machine
end

section
/-! Control registers (rules R339 to R349). -/
namespace Sys2Proof.Machine

variable {s : State}

/-! ### Bits and fields of a word put together from fields -/

theorem bit_high {m n i : Nat} (x : BitVec m) (z : BitVec n) (h : n ≤ i) : (x ++ z).getLsbD i = x.getLsbD (i - n) := by
  rw [BitVec.getLsbD_append, if_neg (by omega)]

theorem bit_low {m n i : Nat} (x : BitVec m) (z : BitVec n) (h : i < n) : (x ++ z).getLsbD i = z.getLsbD i := by
  rw [BitVec.getLsbD_append, if_pos h]

theorem bit_ofBool (b : Bool) : (BitVec.ofBool b).getLsbD 0 = b := by cases b <;> rfl

theorem extract_two_low {k m n : Nat} (x : BitVec k) (y : BitVec m) (z : BitVec n) :
    (x ++ y ++ z).extractLsb' 0 (m + n) = y ++ z := by
  apply BitVec.eq_of_getLsbD_eq
  intro i hi
  rw [BitVec.getLsbD_extractLsb', Nat.zero_add, decide_eq_true hi, Bool.true_and]
  by_cases h : i < n
  · rw [bit_low _ _ h, bit_low _ _ h]
  · rw [bit_high _ _ (by omega), bit_low _ _ (by omega), bit_high _ _ (by omega)]

/-- The PSR field by field (rule R40). -/
theorem psrWord_fields (s : State) :
    s.psrWord.extractLsb' 28 4 = s.params.impl ∧ s.psrWord.extractLsb' 24 4 = s.params.ver ∧
      [23, 22, 21, 20].map s.psrWord.getLsbD = [s.psr.icc.n, s.psr.icc.z, s.psr.icc.v, s.psr.icc.c] ∧
      s.psrWord.extractLsb' 14 6 = 0#6 ∧ s.psrWord.getLsbD 13 = s.psr.ec ∧ s.psrWord.getLsbD 12 = s.psr.ef ∧
      s.psrWord.extractLsb' 8 4 = s.psr.pil ∧ s.psrWord.getLsbD 7 = s.psr.s ∧ s.psrWord.getLsbD 6 = s.psr.ps ∧
      s.psrWord.getLsbD 5 = s.psr.et ∧ s.psrWord.extractLsb' 0 5 = 0#2 ++ s.psr.cwp := by
  unfold State.psrWord
  refine ⟨?impl, ?ver, ?icc, ?reserved, ?ec, ?ef, ?pil, ?s, ?ps, ?et, extract_two_low _ _ _⟩
  case impl | ver | reserved | pil =>
    simp (disch := decide) only [extract_append_high, extract_append_low, extract_all, Nat.reduceSub]
  case icc | ec | ef | s | ps | et =>
    simp (disch := decide) only [bit_high, bit_low, bit_ofBool, Nat.reduceSub, List.map]

/-! ### Reading (rules R340 to R343) -/

theorem wimWord_eq (s : State) : s.wimWord = BitVec.ofNat 32 s.wim.toNat := by
  apply BitVec.eq_of_toNat_eq
  have := s.wim.isLt
  rw [State.wimWord, toNat_append_add, BitVec.toNat_ofNat, BitVec.toNat_ofNat]
  omega

theorem tbrWord_eq (s : State) : s.tbrWord = BitVec.ofNat 32 (s.tba.toNat * 2 ^ 12 + s.tt.toNat * 2 ^ 4) := by
  apply BitVec.eq_of_toNat_eq
  have := s.tba.isLt
  have := s.tt.isLt
  rw [State.tbrWord, toNat_append_add, toNat_append_add, BitVec.toNat_ofNat, BitVec.toNat_ofNat]
  omega

/-- Settles O45. -/
theorem readControl : Obligations.ReadControl := by
  unfold Obligations.ReadControl
  intro s rd
  refine ⟨computed_writeReg rfl, fun hs => ⟨?_, ?_, ?_⟩⟩
  · obtain ⟨himpl, hver, hicc, hres, hec, hef, hpil, hS, hps, het, hcwp⟩ := psrWord_fields s
    obtain ⟨t, e, h⟩ := computed_writeReg (i := .rdpsr rd) (supervisorOnly_of_supervisor hs)
    exact ⟨t, s.psrWord, e, h, himpl, hver, hicc, hres, hec, hef, hpil, hS.trans hs, hps, het, hcwp⟩
  · exact computed_writeReg (wimWord_eq s ▸ supervisorOnly_of_supervisor hs)
  · exact computed_writeReg (tbrWord_eq s ▸ supervisorOnly_of_supervisor hs)

/-! ### Writing (rules R344 to R349) -/

theorem extract_eq_ofNat (v : Word) (k n : Nat) : v.extractLsb' k n = BitVec.ofNat n (v.toNat / 2 ^ k) := by
  apply BitVec.eq_of_toNat_eq
  rw [BitVec.extractLsb'_toNat, BitVec.toNat_ofNat, Nat.shiftRight_eq_div_pow]

/-- Y and its parity written. -/
theorem computes_wry (s : State) (v : Word) :
    (s.wroteControl .y).Computes (State.wroteControl { s with y := v } .y).retire.advance 0#5 0#32 s.psr v [] :=
  computes_of_fields (u := State.wroteControl { s with y := v } .y) rfl rfl rfl rfl rfl rfl
    ⟨rfl, rfl, rfl, rfl, rfl, rfl, rfl, rfl, rfl, rfl⟩ ⟨rfl, rfl⟩ (List.append_nil _).symm rfl ⟨rfl, rfl, rfl, rfl⟩

/-- The PSR and its parity written. -/
theorem computes_wrpsr (s : State) (p : Psr) :
    (s.wroteControl .psr).Computes (State.wroteControl { s with psr := p } .psr).retire.advance 0#5 0#32 p s.y [] :=
  computes_of_fields (u := State.wroteControl { s with psr := p } .psr) rfl rfl rfl rfl rfl rfl
    ⟨rfl, rfl, rfl, rfl, rfl, rfl, rfl, rfl, rfl, rfl⟩ ⟨rfl, rfl⟩ (List.append_nil _).symm rfl ⟨rfl, rfl, rfl, rfl⟩

theorem exec_wrwim_supervisor (hs : s.psr.s = true) (rs1 : RegNum) (op2 : Operand2) :
    exec (.wrwim rs1 op2) s = State.complete
      { s.wroteControl .wim with wim := BitVec.ofNat 8 (s.readReg rs1 ^^^ s.op2val op2).toNat } := by
  rw [exec_wrwim, execWrwim, supervisorOnly_of_supervisor hs, extract_eq_ofNat, Nat.pow_zero, Nat.div_one]
  rfl

theorem exec_wrtbr_supervisor (hs : s.psr.s = true) (rs1 : RegNum) (op2 : Operand2) :
    exec (.wrtbr rs1 op2) s = State.complete
      { s.wroteControl .tbr with tba := BitVec.ofNat 20 ((s.readReg rs1 ^^^ s.op2val op2).toNat / 2 ^ 12) } := by
  rw [exec_wrtbr, execWrtbr, supervisorOnly_of_supervisor hs, extract_eq_ofNat]
  rfl

/-- Settles O46. -/
theorem writeControl : Obligations.WriteControl := by
  unfold Obligations.WriteControl
  intro s rs1 op2 v
  exact ⟨⟨_, exec_wry .., computes_wry s v⟩, fun hs => ⟨⟨_, exec_wrwim_supervisor hs rs1 op2, computes_nothing _⟩,
    ⟨_, exec_wrtbr_supervisor hs rs1 op2, computes_nothing _⟩⟩⟩

/-! ### WRPSR (rule R346) -/

theorem badCwp_iff_mod (v : Word) : badCwp v = true ↔ 8 ≤ v.toNat % 32 := by
  rw [badCwp_iff, BitVec.extractLsb'_toNat]
  rfl

theorem psrOfWord_cwp {v : Word} (h : v.toNat % 32 < 8) : (psrOfWord v).cwp.toNat = v.toNat % 32 := by
  show (v.extractLsb' 0 3).toNat = _
  rw [BitVec.extractLsb'_toNat, Nat.shiftRight_zero]
  omega

/-- Neighbouring fields of a word make one field. -/
theorem join_fields (v : Word) (k m n : Nat) : v.extractLsb' (k + n) m ++ v.extractLsb' k n = v.extractLsb' k (m + n) := by
  apply BitVec.eq_of_getLsbD_eq
  intro i hi
  by_cases h : i < n
  · simp only [bit_low _ _ h, BitVec.getLsbD_extractLsb', h, hi, decide_true]
  · simp only [bit_high _ _ (Nat.le_of_not_lt h), BitVec.getLsbD_extractLsb', show i - n < m by omega, hi, decide_true,
      show k + n + (i - n) = k + i by omega]

theorem ofBool_getLsbD (v : Word) (k : Nat) : BitVec.ofBool (v.getLsbD k) = v.extractLsb' k 1 := by
  apply BitVec.eq_of_getLsbD_eq
  intro i hi
  obtain rfl : i = 0 := by omega
  rw [bit_ofBool, BitVec.getLsbD_extractLsb']
  rfl

/-- The low fields of the PSR that a word leaves are the low bits of the word, if its CWP field names a window. -/
theorem join_low_fields {v : Word} (h : v.toNat % 32 < 8) :
    v.extractLsb' 13 1 ++ v.extractLsb' 12 1 ++ v.extractLsb' 8 4 ++ v.extractLsb' 7 1 ++ v.extractLsb' 6 1 ++
      v.extractLsb' 5 1 ++ 0#2 ++ v.extractLsb' 0 3 = v.extractLsb' 0 14 := by
  have zero : 0#2 = v.extractLsb' 3 2 := by
    rw [extract_eq_ofNat, ← BitVec.toNat_inj, BitVec.toNat_ofNat, BitVec.toNat_ofNat]
    omega
  have j12 : v.extractLsb' 13 1 ++ v.extractLsb' 12 1 = v.extractLsb' 12 2 := join_fields v 12 1 1
  have j8 : v.extractLsb' 12 2 ++ v.extractLsb' 8 4 = v.extractLsb' 8 6 := join_fields v 8 2 4
  have j7 : v.extractLsb' 8 6 ++ v.extractLsb' 7 1 = v.extractLsb' 7 7 := join_fields v 7 6 1
  have j6 : v.extractLsb' 7 7 ++ v.extractLsb' 6 1 = v.extractLsb' 6 8 := join_fields v 6 7 1
  have j5 : v.extractLsb' 6 8 ++ v.extractLsb' 5 1 = v.extractLsb' 5 9 := join_fields v 5 8 1
  have j3 : v.extractLsb' 5 9 ++ v.extractLsb' 3 2 = v.extractLsb' 3 11 := join_fields v 3 9 2
  have j0 : v.extractLsb' 3 11 ++ v.extractLsb' 0 3 = v.extractLsb' 0 14 := join_fields v 0 11 3
  rw [zero, j12, j8, j7, j6, j5, j3, j0]

/-- The flags in the PSR. -/
theorem join_flags (v : Word) :
    v.extractLsb' 23 1 ++ v.extractLsb' 22 1 ++ v.extractLsb' 21 1 ++ v.extractLsb' 20 1 = v.extractLsb' 20 4 := by
  have j22 : v.extractLsb' 23 1 ++ v.extractLsb' 22 1 = v.extractLsb' 22 2 := join_fields v 22 1 1
  have j21 : v.extractLsb' 22 2 ++ v.extractLsb' 21 1 = v.extractLsb' 21 3 := join_fields v 21 2 1
  have j20 : v.extractLsb' 21 3 ++ v.extractLsb' 20 1 = v.extractLsb' 20 4 := join_fields v 20 3 1
  rw [j22, j21, j20]

/-- What RDPSR reads after WRPSR of a word. -/
theorem psrWord_psrOfWord {t : State} {v : Word} (h : v.toNat % 32 < 8) (ht : t.psr = psrOfWord v) :
    t.psrWord = t.params.impl ++ t.params.ver ++ v.extractLsb' 20 4 ++ 0#6 ++ v.extractLsb' 0 14 := by
  rw [State.psrWord, ht, ← join_flags, ← join_low_fields h]
  simp only [psrOfWord, ofBool_getLsbD]
  apply BitVec.eq_of_toNat_eq
  simp only [toNat_append_add]
  omega

/-- Settles O47. -/
theorem writePsr : Obligations.WritePsr := by
  unfold Obligations.WritePsr
  intro s rs1 op2 v
  have value : s.writeValue rs1 op2 = v := rfl
  refine ⟨fun hv hs => ?_, fun hv => ?_⟩
  · have e : exec (.wrpsr rs1 op2) s = (State.wroteControl { s with psr := psrOfWord v } .psr).complete := by
      rw [exec_wrpsr, execWrpsr, value, if_neg fun hb => absurd ((badCwp_iff_mod v).mp hb) (by omega), supervisorOnly_of_supervisor hs]
    exact ⟨_, psrOfWord v, e, computes_wrpsr s _, rfl, rfl, psrOfWord_cwp hv, psrWord_psrOfWord hv rfl⟩
  · rw [exec_wrpsr, execWrpsr, value, if_pos ((badCwp_iff_mod v).mpr hv)]
    exact exists_traps_raise _ s

end Sys2Proof.Machine
end

section
/-! Loads, stores and atomics of the IU: the accepted accesses, and those that the memory system refuses. -/
namespace Sys2Proof.Machine

variable {s : State} {asi : Asi} {ea : Word} {z : Size} {rd : RegNum}

/-! ### The two forms of an access -/

/-- A memory instruction and its alternate-space form do the same at their own space and address, the latter in supervisor mode. -/
theorem both_forms {i j : Instr} {rs1 rs2 : RegNum} {op2 : Operand2} {r : Asi → Word → Result} (Q : Asi → Word → Result → Prop)
    (hi : exec i s = r s.dataAsi (s.effAddr rs1 op2)) (hj : exec j s = s.supervisorOnly (r asi (s.altAddr rs1 rs2)))
    (h : ∀ x e, Q x e (r x e)) :
    Q s.dataAsi (s.effAddr rs1 op2) (exec i s) ∧ (s.psr.s = true → Q asi (s.altAddr rs1 rs2) (exec j s)) := by
  refine ⟨hi ▸ h _ _, fun hs => ?_⟩
  rw [hj, supervisorOnly_of_supervisor hs]
  exact h _ _

/-! ### Loads (rules R180 to R184) -/

/-- What an accepted load of this size, alignment and value does. -/
def State.LoadsAs (s : State) (rd : RegNum) (size : BitVec 2) (mask : Word) (value : Asi → Word → Word) (x : Asi) (e : Word)
    (r : Result) : Prop :=
  e &&& mask = 0#32 → s.refuses (s.readRequest x e size false false) = false →
    ∃ t, r = .next t ∧ s.Computes t rd (value x e) s.psr s.y [s.readRequest x e size false false]

/-- One accepted read, one register written. -/
theorem readAccess_loads {v : Word} (hr : s.refuses (s.readRequest asi ea z.code false false) = false) :
    ∃ t, (s.readAccess asi ea z false false id fun t => (t.writeReg rd v).complete) = .next t ∧
      s.Computes t rd v s.psr s.y [s.readRequest asi ea z.code false false] :=
  ⟨_, readAccess_of_accepted hr, computes_load s rd v _⟩

theorem loadWord_loads : s.LoadsAs rd 0b10#2 3#32 s.readWord asi ea (s.loadWord asi ea rd) := fun ha hr => by
  rw [State.loadWord, whenAligned_of_aligned ((aligned_word_iff ea).mpr ha)]
  exact readAccess_loads (z := .word) hr

theorem loadByte_loads {ext value : Byte → Word} (he : ∀ b, ext b = value b) :
    s.LoadsAs rd 0b00#2 0#32 (fun x e => value (s.readByte x e)) asi ea (s.loadByte asi ea rd ext) := fun _ hr => by
  obtain rfl : ext = value := funext he
  exact readAccess_loads (z := .byte) hr

theorem loadHalf_loads {ext value : BitVec 16 → Word} (he : ∀ b, ext b = value b) :
    s.LoadsAs rd 0b01#2 1#32 (fun x e => value (s.readHalf x e)) asi ea (s.loadHalf asi ea rd ext) := fun ha hr => by
  obtain rfl : ext = value := funext he
  rw [State.loadHalf, whenAligned_of_aligned ((aligned_half_iff ea).mpr ha)]
  exact readAccess_loads (z := .half) hr

/-- Extension with zeros, on numbers; with the sign it is so by definition. -/
theorem zeroExtend_eq {n : Nat} (b : BitVec n) : b.zeroExtend 32 = BitVec.ofNat 32 b.toNat := (BitVec.ofNat_toNat 32 b).symm

/-- Settles O54. -/
theorem loads : Obligations.Loads := by
  unfold Obligations.Loads
  intro s rd rs1 rs2 op2 asi word half normal alternate dataAsi
  exact List.forall_iff_forall_mem.mp
    ⟨both_forms (s.LoadsAs rd 0b10#2 3#32 s.readWord) (exec_ld ..) (exec_lda ..) fun _ _ => loadWord_loads,
      both_forms (s.LoadsAs rd 0b00#2 0#32 fun x e => BitVec.ofNat 32 (s.readByte x e).toNat) (exec_ldub ..) (exec_lduba ..)
        fun _ _ => loadByte_loads zeroExtend_eq,
      both_forms (s.LoadsAs rd 0b00#2 0#32 fun x e => BitVec.ofInt 32 (s.readByte x e).toInt) (exec_ldsb ..) (exec_ldsba ..)
        fun _ _ => loadByte_loads (ext := (·.signExtend 32)) fun _ => rfl,
      both_forms (s.LoadsAs rd 0b01#2 1#32 fun x e => BitVec.ofNat 32 (s.readHalf x e).toNat) (exec_lduh ..) (exec_lduha ..)
        fun _ _ => loadHalf_loads zeroExtend_eq,
      both_forms (s.LoadsAs rd 0b01#2 1#32 fun x e => BitVec.ofInt 32 (s.readHalf x e).toInt) (exec_ldsh ..) (exec_ldsha ..)
        fun _ _ => loadHalf_loads (ext := (·.signExtend 32)) fun _ => rfl⟩

/-! ### Stores (rules R190 to R192) -/

/-- What an accepted store of these bytes does. -/
def State.StoresAs (s : State) (size : BitVec 2) (mask : Word) (bytes : List Byte) (data : Word) (x : Asi) (e : Word)
    (r : Result) : Prop :=
  e &&& mask = 0#32 → s.refuses (s.writeRequest x e size false false data) = false →
    ∃ t, r = .next t ∧ s.Moves t [] x e bytes.length [s.writeRequest x e size false false data] ∧
      ∀ j (h : j < bytes.length), t.readByte x (e + BitVec.ofNat 32 j) = bytes[j]

/-- One accepted write. -/
theorem writeAccess_stores (hm : Memory.wf s.mem = true) {bs : List Byte} (hl : bs.length ≤ 2 ^ 32)
    (hr : s.refuses (s.writeRequest asi ea z.code false false (busData bs)) = false) :
    ∃ t, s.writeAccess asi ea z false false bs id State.complete = .next t ∧
      s.Moves t [] asi ea bs.length [s.writeRequest asi ea z.code false false (busData bs)] ∧
      ∀ j (h : j < bs.length), t.readByte asi (ea + BitVec.ofNat 32 j) = bs[j] :=
  ⟨_, writeAccess_of_accepted hr, moves_store hm asi ea bs _,
    fun _ hj => readByte_storeBytes (s := s.request _) hm asi ea bs hl hj⟩

theorem storeWord_stores (hm : Memory.wf s.mem = true) :
    s.StoresAs 0b10#2 3#32 (bytesOfData (s.readReg rd)) (s.readReg rd) asi ea (s.storeWord asi ea rd) := fun ha hr => by
  rw [State.storeWord, whenAligned_of_aligned ((aligned_word_iff ea).mpr ha)]
  have hb := busData_bytesOfData (s.readReg rd)
  have h := writeAccess_stores (asi := asi) (ea := ea) (z := .word) hm (bs := bytesOfData (s.readReg rd)) (by simp [bytesOfData])
  rw [hb] at h
  exact h hr

theorem storeByte_stores (hm : Memory.wf s.mem = true) {b0 : Byte} (hb : b0 = (s.readReg rd).extractLsb' 0 8) :
    s.StoresAs 0b00#2 0#32 [b0] (b0 ++ b0 ++ b0 ++ b0) asi ea (s.storeByte asi ea rd) := fun _ hr => by
  subst hb
  exact writeAccess_stores (z := .byte) hm (by simp) hr

/-- The two bytes of the low halfword are bytes of the register. -/
theorem bytesOfHalf_low (v : Word) : bytesOfHalf (v.extractLsb' 0 16) = [v.extractLsb' 8 8, v.extractLsb' 0 8] := by
  have sub (k : Nat) (h : k + 8 ≤ 16) : (v.extractLsb' 0 16).extractLsb' k 8 = v.extractLsb' k 8 := by
    apply BitVec.eq_of_getLsbD_eq
    intro i hi
    simp only [BitVec.getLsbD_extractLsb', hi, show k + i < 16 by omega, decide_true, Bool.true_and, Nat.zero_add]
  rw [bytesOfHalf, sub 8 (by decide), sub 0 (by decide)]

theorem storeHalf_stores (hm : Memory.wf s.mem = true) {b0 b1 : Byte} (h0 : b0 = (s.readReg rd).extractLsb' 0 8)
    (h1 : b1 = (s.readReg rd).extractLsb' 8 8) :
    s.StoresAs 0b01#2 1#32 [b1, b0] (b1 ++ b0 ++ b1 ++ b0) asi ea (s.storeHalf asi ea rd) := fun ha hr => by
  subst h0 h1
  rw [State.storeHalf, whenAligned_of_aligned ((aligned_half_iff ea).mpr ha), bytesOfHalf_low]
  exact writeAccess_stores (z := .half) hm (by simp) hr

/-- Settles O55. -/
theorem stores : Obligations.Stores := by
  unfold Obligations.Stores
  intro s rd rs1 rs2 op2 asi hm v b0 b1 b2 b3 normal alternate dataAsi
  exact List.forall_iff_forall_mem.mp
    ⟨both_forms (s.StoresAs 0b10#2 3#32 [b3, b2, b1, b0] v) (exec_st ..) (exec_sta ..) fun _ _ => storeWord_stores hm,
      both_forms (s.StoresAs 0b00#2 0#32 [b0] _) (exec_stb ..) (exec_stba ..) fun _ _ => storeByte_stores hm rfl,
      both_forms (s.StoresAs 0b01#2 1#32 [b1, b0] _) (exec_sth ..) (exec_stha ..) fun _ _ => storeHalf_stores hm rfl rfl⟩

/-! ### A request refused (rules R100 to R102) -/

/-- What an access whose first request is refused does. -/
def State.RefusedAs (s : State) (mask : Word) (request : Asi → Word → BusRequest) (x : Asi) (e : Word) (r : Result) : Prop :=
  e &&& mask = 0#32 → s.refuses (request x e) = true →
    ∃ t, r = .next t ∧ State.Traps .dataAccessException s t ∧ s.SameUnits t ∧ t.bus = s.bus ++ [request x e]

theorem readAccess_refused {l k : Bool} {go : State → Result} (hr : s.refuses (s.readRequest asi ea z.code l k) = true) :
    ∃ t, s.readAccess asi ea z l k id go = .next t ∧ State.Traps .dataAccessException s t ∧ s.SameUnits t ∧
      t.bus = s.bus ++ [s.readRequest asi ea z.code l k] := by
  rw [readAccess_of_refused hr]
  exact traps_refused s _

theorem writeAccess_refused {l k : Bool} {bs : List Byte} {go : State → Result}
    (hr : s.refuses (s.writeRequest asi ea z.code l k (busData bs)) = true) :
    ∃ t, s.writeAccess asi ea z l k bs id go = .next t ∧ State.Traps .dataAccessException s t ∧ s.SameUnits t ∧
      t.bus = s.bus ++ [s.writeRequest asi ea z.code l k (busData bs)] := by
  rw [writeAccess_of_refused hr]
  exact traps_refused s _

/-- The second request of an access is refused: the trap enters from the state that the first part left. -/
theorem refused_later {u : State} {l : List Nat} {requests : List BusRequest} (hk : s.Keeps u) (hr : s.SameRegsBut u l)
    (hb : u.bus = s.bus ++ requests) :
    s.EnteredTrap (u.takeTrap .dataAccessException) ∧ (u.takeTrap .dataAccessException).tt = 0x09#8 ∧
      s.SameUnits (u.takeTrap .dataAccessException) ∧ (u.takeTrap .dataAccessException).y = s.y ∧
      (u.takeTrap .dataAccessException).bus = s.bus ++ requests ∧
      s.SameRegsBut (u.takeTrap .dataAccessException)
        (l ++ [regIndex (s.psr.cwp - 1#3) 17#5, regIndex (s.psr.cwp - 1#3) 18#5]) :=
  ⟨hk.entered _, rfl, ⟨hk.units.fpu, hk.units.cp⟩, hk.y, hb, hk.trapRegs hr _⟩

/-- A register that the model may or may not have written when a later request is refused (U6, U7). -/
theorem keeps_maybeWritten (u : State) (b : Bool) (n : RegNum) (v : Word) (k : Nat) :
    u.Keeps ((if b then u.writeReg n v else u).useFree k) ∧
      u.SameRegsBut ((if b then u.writeReg n v else u).useFree k) [regIndex u.psr.cwp n] ∧
      ((if b then u.writeReg n v else u).useFree k).mem = u.mem ∧ ((if b then u.writeReg n v else u).useFree k).bus = u.bus := by
  cases b with
  | false => exact ⟨keeps_useFree u k, sameRegsBut_of_eq rfl rfl rfl, rfl, rfl⟩
  | true => exact ⟨(keeps_writeReg u n v).trans (keeps_useFree _ k), (sameRegsBut_writeReg u n v).of_eq rfl rfl rfl, rfl, rfl⟩

/-- The state in which the second of two requests is refused, a register maybe written in between. -/
theorem keeps_refusedSecond (s : State) (b : State → Bool) (n : RegNum) (v : State → Word) (k : Nat) (r q : BusRequest) :
    let f := s.request r
    let u := ((if b f then f.writeReg n (v f) else f).useFree k).request q
    s.Keeps u ∧ s.SameRegsBut u [regIndex s.psr.cwp n] ∧ s.SameMemory u ∧ u.bus = s.bus ++ [r, q] := by
  intro f u
  obtain ⟨hk, hr, hm, hb⟩ := keeps_maybeWritten f (b f) n (v f) k
  have hkeeps := ((keeps_request s r).trans hk).trans (keeps_request _ q)
  have hbus : u.bus = (s.bus ++ [r]) ++ [q] := congrArg (· ++ [q]) hb
  exact ⟨hkeeps, ((sameRegsBut_of_eq (s := s) (t := f) (l := []) rfl rfl rfl).trans hr).of_eq rfl rfl rfl,
    sameMemory_of_mem hm hkeeps.control.platform, by rw [hbus, List.append_assoc]; rfl⟩

/-! ### Double loads (rules R186, R205) -/

/-- The odd register is the one after the even one. -/
theorem oddReg_eq (n : RegNum) : (n &&& 0b11110#5) + 1#5 = oddReg n := by revert n; decide

/-- What LDD and LDDA do at their space and address, once the first word has come. -/
theorem loadDouble_ends {even odd : RegNum} (he : even = evenReg rd) (ho : odd = oddReg rd) (ha : ea &&& 7#32 = 0#32)
    (h1 : s.refuses (s.readRequest asi ea 0b11#2 false true) = false) :
    (s.refuses (s.readRequest asi (ea + 4#32) 0b11#2 false false) = false → ∃ t, s.loadDouble asi ea rd = .next t ∧
        s.Moves t [regIndex s.psr.cwp even, regIndex s.psr.cwp odd] asi ea 0
          [s.readRequest asi ea 0b11#2 false true, s.readRequest asi (ea + 4#32) 0b11#2 false false] ∧
        t.readReg even = (if even = 0#5 then 0#32 else s.readWord asi ea) ∧
        t.readReg odd = s.readWord asi (ea + 4#32)) ∧
      (s.refuses (s.readRequest asi (ea + 4#32) 0b11#2 false false) = true → ∃ t, s.loadDouble asi ea rd = .next t ∧
        s.EnteredTrap t ∧ t.tt = 0x09#8 ∧ s.SameMemory t ∧
        t.bus = s.bus ++ [s.readRequest asi ea 0b11#2 false true, s.readRequest asi (ea + 4#32) 0b11#2 false false] ∧
        s.SameUnits t ∧ t.y = s.y ∧
        s.SameRegsBut t [regIndex s.psr.cwp even, regIndex (s.psr.cwp - 1#3) 17#5, regIndex (s.psr.cwp - 1#3) 18#5]) := by
  subst he ho
  rw [State.loadDouble, whenAligned_of_aligned ((aligned_dbl_iff ea).mpr ha), twoReads_eq h1]
  refine ⟨fun h2 => ?_, fun h2 => ?_⟩
  · rw [if_neg (by rw [h2]; exact Bool.false_ne_true)]
    have hp := pair_writeReg ((s.request (s.readRequest asi ea 0b11#2 false true)).request
      (s.readRequest asi (ea + 4#32) 0b11#2 false false)) rd (s.readWord asi ea) (s.readWord asi (ea + 4#32))
    exact ⟨_, rfl, moves_pair s asi ea rd _ _ _ _, hp.2.1, hp.2.2⟩
  · rw [if_pos h2]
    obtain ⟨hk, hregs, hmem, hb⟩ := keeps_refusedSecond s (fun f => Config.freeBit f.freeIdx) (evenReg rd)
      (fun f => Config.freeWord (f.freeIdx + 1)) 2 (s.readRequest asi ea 0b11#2 false true)
      (s.readRequest asi (ea + 4#32) 0b11#2 false false)
    obtain ⟨he, htt, hunits, hy, hbus, hr⟩ := refused_later hk hregs hb
    exact ⟨_, rfl, he, htt, hmem, hbus, hunits, hy, hr⟩

/-- Settles O56. -/
theorem doubleLoads : Obligations.DoubleLoads := by
  unfold Obligations.DoubleLoads
  intro s rd rs1 rs2 op2 asi even odd
  refine List.forall_iff_forall_mem.mp ⟨fun ha _ h1 =>
    loadDouble_ends (asi := s.dataAsi) (ea := s.effAddr rs1 op2) rfl (oddReg_eq rd) ha h1, fun ha hs h1 => ?_⟩
  have e : exec (.ldda rd rs1 asi rs2) s = s.loadDouble asi (s.altAddr rs1 rs2) rd :=
    supervisorOnly_of_supervisor (hs.resolve_left nofun)
  rw [e]
  exact loadDouble_ends (ea := s.altAddr rs1 rs2) rfl (oddReg_eq rd) ha h1

/-! ### Double stores (rules R193, R218) -/

theorem readWord_takeTrap (k : Trap) (u : State) (x : Asi) (e : Word) : (u.takeTrap k).readWord x e = u.readWord x e := rfl

/-- The state in which the second of two writes is refused: the first word is written. -/
theorem keeps_firstWritten (hm : Memory.wf s.mem = true) (asi : Asi) (ea hi : Word) (r q : BusRequest) :
    let u := ((s.request r).storeBytes asi ea (bytesOfData hi)).request q
    s.Keeps u ∧ s.SameRegsBut u [] ∧ s.SameMemoryBut u asi ea 4 ∧ u.readWord asi ea = hi ∧ u.bus = s.bus ++ [r, q] :=
  ⟨((keeps_request s r).trans (keeps_storeBytes _ _ _ _)).trans (keeps_request _ q), sameRegsBut_of_eq rfl rfl rfl,
    (sameMemoryBut_storeBytes (s := s.request r) hm asi ea (bytesOfData hi)).of_mem rfl rfl,
    readWord_storeBytes (s := s.request r) hm asi ea hi, List.append_assoc s.bus [r] [q]⟩

/-- The second of two writes is refused. -/
theorem storeTwo_secondRefused {hi lo : Word} (hm : Memory.wf s.mem = true)
    (h1 : s.refuses (s.writeRequest asi ea 0b11#2 false true hi) = false)
    (h2 : s.refuses (s.writeRequest asi (ea + 4#32) 0b11#2 false false lo) = true) (go : State → Result) :
    ∃ t, s.storeTwo asi ea hi lo go = .next t ∧ s.EnteredTrap t ∧ t.tt = 0x09#8 ∧ s.SameMemoryBut t asi ea 4 ∧
      t.readWord asi ea = hi ∧
      t.bus = s.bus ++
        [s.writeRequest asi ea 0b11#2 false true hi, s.writeRequest asi (ea + 4#32) 0b11#2 false false lo] ∧
      s.SameUnits t ∧ t.y = s.y ∧
      s.SameRegsBut t [regIndex (s.psr.cwp - 1#3) 17#5, regIndex (s.psr.cwp - 1#3) 18#5] := by
  rw [storeTwo_eq h1, if_pos h2]
  obtain ⟨hk, hregs, hmem, hword, hb⟩ := keeps_firstWritten hm asi ea hi
    (s.writeRequest asi ea 0b11#2 false true hi) (s.writeRequest asi (ea + 4#32) 0b11#2 false false lo)
  obtain ⟨he, htt, hunits, hy, hbus, hr⟩ := refused_later hk hregs hb
  exact ⟨_, rfl, he, htt, hmem.of_mem rfl rfl, (readWord_takeTrap _ _ _ _).trans hword, hbus, hunits, hy, hr⟩

/-- What STD and STDA do at their space and address, once the first word has been accepted. -/
theorem storeDouble_ends {even odd : RegNum} (he : even = evenReg rd) (ho : odd = oddReg rd)
    (hm : Memory.wf s.mem = true) (ha : ea &&& 7#32 = 0#32)
    (h1 : s.refuses (s.writeRequest asi ea 0b11#2 false true (s.readReg even)) = false) :
    (s.refuses (s.writeRequest asi (ea + 4#32) 0b11#2 false false (s.readReg odd)) = false →
        ∃ t, s.storeDouble asi ea rd = .next t ∧
          s.Moves t [] asi ea 8 [s.writeRequest asi ea 0b11#2 false true (s.readReg even),
            s.writeRequest asi (ea + 4#32) 0b11#2 false false (s.readReg odd)] ∧
          t.readWord asi ea = s.readReg even ∧ t.readWord asi (ea + 4#32) = s.readReg odd) ∧
      (s.refuses (s.writeRequest asi (ea + 4#32) 0b11#2 false false (s.readReg odd)) = true →
        ∃ t, s.storeDouble asi ea rd = .next t ∧ s.EnteredTrap t ∧ t.tt = 0x09#8 ∧ s.SameMemoryBut t asi ea 4 ∧
          t.readWord asi ea = s.readReg even ∧
          t.bus = s.bus ++ [s.writeRequest asi ea 0b11#2 false true (s.readReg even),
            s.writeRequest asi (ea + 4#32) 0b11#2 false false (s.readReg odd)] ∧
          s.SameUnits t ∧ t.y = s.y ∧
          s.SameRegsBut t [regIndex (s.psr.cwp - 1#3) 17#5, regIndex (s.psr.cwp - 1#3) 18#5]) := by
  subst he ho
  rw [State.storeDouble, whenAligned_of_aligned ((aligned_dbl_iff ea).mpr ha)]
  refine ⟨fun h2 => ?_, fun h2 => storeTwo_secondRefused hm h1 h2 _⟩
  · rw [storeTwo_eq h1, if_neg (by rw [h2]; exact Bool.false_ne_true)]
    have hw := two_words hm asi ea (s.readReg (evenReg rd)) (s.readReg (oddReg rd))
      (s.writeRequest asi ea 0b11#2 false true (s.readReg (evenReg rd)))
      (s.writeRequest asi (ea + 4#32) 0b11#2 false false (s.readReg (oddReg rd)))
    exact ⟨_, rfl, moves_two hm asi ea _ _ _ _, (readWord_complete _ _ _).trans hw.2.1, (readWord_complete _ _ _).trans hw.2.2⟩

/-- Settles O57. -/
theorem doubleStores : Obligations.DoubleStores := by
  unfold Obligations.DoubleStores
  intro s rd rs1 rs2 op2 asi hm hi lo
  refine List.forall_iff_forall_mem.mp ⟨fun ha _ h1 =>
    storeDouble_ends (asi := s.dataAsi) (ea := s.effAddr rs1 op2) rfl (oddReg_eq rd) hm ha h1, fun ha hs h1 => ?_⟩
  have e : exec (.stda rd rs1 asi rs2) s = s.storeDouble asi (s.altAddr rs1 rs2) rd :=
    supervisorOnly_of_supervisor (hs.resolve_left nofun)
  rw [e]
  exact storeDouble_ends (ea := s.altAddr rs1 rs2) rfl (oddReg_eq rd) hm ha h1

end Sys2Proof.Machine
end

section
/-! Atomics, and the accesses of the IU that the memory system refuses. -/
namespace Sys2Proof.Machine

variable {s : State} {asi : Asi} {ea : Word} {z : Size} {rd : RegNum}

/-! ### Atomics (rules R112, R210 to R214) -/

/-- The value that an atomic loads. -/
def State.atomicOld (s : State) (byte : Bool) (x : Asi) (e : Word) : Word :=
  if byte then BitVec.ofNat 32 (s.readByte x e).toNat else s.readWord x e

/-- The read of an atomic. -/
def State.atomicRead (s : State) (byte : Bool) (x : Asi) (e : Word) : BusRequest :=
  s.readRequest x e (if byte then 0b00#2 else 0b10#2) true true

/-- The write of an atomic. -/
def State.atomicWrite (s : State) (rd : RegNum) (byte : Bool) (x : Asi) (e : Word) : BusRequest :=
  s.writeRequest x e (if byte then 0b00#2 else 0b10#2) true false (if byte then 0xFFFFFFFF#32 else s.readReg rd)

/-- What an atomic both of whose requests are accepted does. -/
def State.ExchangesAs (s : State) (rd : RegNum) (byte : Bool) (x : Asi) (e : Word) (r : Result) : Prop :=
  (byte = true ∨ e &&& 3#32 = 0#32) → s.refuses (s.atomicRead byte x e) = false →
    s.refuses (s.atomicWrite rd byte x e) = false →
    ∃ t, r = .next t ∧
      s.Moves t [regIndex s.psr.cwp rd] x e (if byte then 1 else 4) [s.atomicRead byte x e, s.atomicWrite rd byte x e] ∧
      t.readReg rd = (if rd = 0#5 then 0#32 else s.atomicOld byte x e) ∧
      (if byte then t.readByte x e = 0xFF#8 else t.readWord x e = s.readReg rd)

/-- An atomic whose two requests are accepted: bytes and register. -/
theorem exchange_ends (hm : Memory.wf s.mem = true) {old : Word} {bs : List Byte} {r w : BusRequest}
    (hread : r = s.readRequest asi ea z.code true true) (hwrite : w = s.writeRequest asi ea z.code true false (busData bs))
    (h1 : s.refuses r = false) (h2 : s.refuses w = false) :
    s.exchange asi ea z rd old bs =
        .next ((((s.request r).request w).storeBytes asi ea bs).writeReg rd old).retire.advance ∧
      s.Moves ((((s.request r).request w).storeBytes asi ea bs).writeReg rd old).retire.advance [regIndex s.psr.cwp rd] asi ea
        bs.length [r, w] ∧
      ((((s.request r).request w).storeBytes asi ea bs).writeReg rd old).retire.advance.readReg rd =
        (if rd = 0#5 then 0#32 else old) := by
  subst hread hwrite
  exact ⟨exchange_eq h1 h2, moves_exchange hm asi ea rd old bs _ _, readReg_writeReg_self _ rd old⟩

/-- The register of an atomic is written after its bytes. -/
theorem readWord_afterExchange (u : State) (n : RegNum) (v : Word) (x : Asi) (e : Word) :
    (u.writeReg n v).retire.advance.readWord x e = u.readWord x e := rfl

theorem loadStoreByte_exchanges (hm : Memory.wf s.mem = true) :
    s.ExchangesAs rd true asi ea (s.loadStoreByte asi ea rd) := fun _ h1 h2 => by
  obtain ⟨he, hmoves, hreg⟩ := exchange_ends (z := .byte) (rd := rd) (old := (s.readByte asi ea).zeroExtend 32) hm rfl
    (w := s.atomicWrite rd true asi ea) (bs := [0xFF#8]) rfl h1 h2
  refine ⟨_, he, hmoves, hreg.trans (by rw [zeroExtend_eq]; rfl), ?_⟩
  have h := readByte_storeBytes (s := (s.request (s.atomicRead true asi ea)).request (s.atomicWrite rd true asi ea)) hm asi ea
    [0xFF#8] (by decide) (i := 0) Nat.zero_lt_one
  rw [BitVec.add_zero] at h
  exact h

theorem swapWord_exchanges (hm : Memory.wf s.mem = true) :
    s.ExchangesAs rd false asi ea (s.swapWord asi ea rd) := fun ha h1 h2 => by
  obtain ⟨he, hmoves, hreg⟩ := exchange_ends (z := .word) (rd := rd) (old := s.readWord asi ea) hm rfl
    (w := s.atomicWrite rd false asi ea) (bs := bytesOfData (s.readReg rd)) (by rw [busData_bytesOfData]; rfl) h1 h2
  rw [State.swapWord, whenAligned_of_aligned ((aligned_word_iff ea).mpr (ha.resolve_left nofun))]
  have h := readWord_storeBytes (s := (s.request (s.atomicRead false asi ea)).request (s.atomicWrite rd false asi ea)) hm asi ea
    (s.readReg rd)
  exact ⟨_, he, hmoves, hreg, (readWord_afterExchange _ rd _ asi ea).trans h⟩

/-- Settles O58. -/
theorem atomics : Obligations.Atomics := by
  unfold Obligations.Atomics
  intro s rd rs1 rs2 op2 asi hm v dataAsi normal alternate
  obtain ⟨hb, hba⟩ := both_forms (s.ExchangesAs rd true) (exec_ldstub s rd rs1 op2) (exec_ldstuba s rd rs1 asi rs2)
    fun _ _ => loadStoreByte_exchanges hm
  obtain ⟨hw, hwa⟩ := both_forms (s.ExchangesAs rd false) (exec_swap s rd rs1 op2) (exec_swapa s rd rs1 asi rs2)
    fun _ _ => swapWord_exchanges hm
  exact List.forall_iff_forall_mem.mp ⟨fun _ => hb, fun hs => hba (hs rfl), fun _ => hw, fun hs => hwa (hs rfl)⟩

/-! ### First requests refused (rules R100, R101, R173) -/

/-- An aligned access does what it does without the check. -/
theorem refusedAs_whenAligned {mask : Word} {request : Asi → Word → BusRequest} {r : Result}
    (ha : z.aligned ea = true ↔ ea &&& mask = 0#32)
    (h : s.refuses (request asi ea) = true →
      ∃ t, r = .next t ∧ State.Traps .dataAccessException s t ∧ s.SameUnits t ∧ t.bus = s.bus ++ [request asi ea]) :
    s.RefusedAs mask request asi ea (s.whenAligned z ea r) := fun hmask hr => by
  rw [whenAligned_of_aligned (ha.mpr hmask)]
  exact h hr

theorem loadByte_refused {ext : Byte → Word} :
    s.RefusedAs 0#32 (fun x e => s.readRequest x e 0b00#2 false false) asi ea (s.loadByte asi ea rd ext) :=
  fun _ hr => readAccess_refused (z := .byte) hr

theorem loadHalf_refused {ext : BitVec 16 → Word} :
    s.RefusedAs 1#32 (fun x e => s.readRequest x e 0b01#2 false false) asi ea (s.loadHalf asi ea rd ext) :=
  refusedAs_whenAligned (aligned_half_iff ea) fun hr => readAccess_refused (z := .half) hr

theorem loadWord_refused :
    s.RefusedAs 3#32 (fun x e => s.readRequest x e 0b10#2 false false) asi ea (s.loadWord asi ea rd) :=
  refusedAs_whenAligned (aligned_word_iff ea) fun hr => readAccess_refused (z := .word) hr

theorem loadDouble_refused :
    s.RefusedAs 7#32 (fun x e => s.readRequest x e 0b11#2 false true) asi ea (s.loadDouble asi ea rd) :=
  refusedAs_whenAligned (aligned_dbl_iff ea) fun hr => readAccess_refused (z := .dbl) hr

/-- A refused write, its data given as the word on the bus. -/
theorem writeAccess_refused_of_data {l k : Bool} {bs : List Byte} {data : Word} {go : State → Result} (hd : busData bs = data)
    (hr : s.refuses (s.writeRequest asi ea z.code l k data) = true) :
    ∃ t, s.writeAccess asi ea z l k bs id go = .next t ∧ State.Traps .dataAccessException s t ∧ s.SameUnits t ∧
      t.bus = s.bus ++ [s.writeRequest asi ea z.code l k data] := by
  subst hd
  exact writeAccess_refused hr

theorem storeByte_refused {b0 : Byte} (h0 : b0 = (s.readReg rd).extractLsb' 0 8) :
    s.RefusedAs 0#32 (fun x e => s.writeRequest x e 0b00#2 false false (b0 ++ b0 ++ b0 ++ b0)) asi ea
      (s.storeByte asi ea rd) := by
  subst h0
  exact fun _ hr => writeAccess_refused_of_data (z := .byte) rfl hr

theorem storeHalf_refused {b0 b1 : Byte} (h0 : b0 = (s.readReg rd).extractLsb' 0 8) (h1 : b1 = (s.readReg rd).extractLsb' 8 8) :
    s.RefusedAs 1#32 (fun x e => s.writeRequest x e 0b01#2 false false (b1 ++ b0 ++ b1 ++ b0)) asi ea
      (s.storeHalf asi ea rd) := by
  subst h0 h1
  exact refusedAs_whenAligned (aligned_half_iff ea) fun hr =>
    writeAccess_refused_of_data (z := .half) (by rw [bytesOfHalf_low]; rfl) hr

theorem storeWord_refused :
    s.RefusedAs 3#32 (fun x e => s.writeRequest x e 0b10#2 false false (s.readReg rd)) asi ea (s.storeWord asi ea rd) :=
  refusedAs_whenAligned (aligned_word_iff ea) fun hr => writeAccess_refused_of_data (z := .word) (busData_bytesOfData _) hr

theorem storeDouble_refused :
    s.RefusedAs 7#32 (fun x e => s.writeRequest x e 0b11#2 false true (s.readReg (evenReg rd))) asi ea
      (s.storeDouble asi ea rd) :=
  refusedAs_whenAligned (aligned_dbl_iff ea) fun hr => writeAccess_refused_of_data (z := .dbl) (busData_bytesOfData _) hr

theorem loadStoreByte_refused :
    s.RefusedAs 0#32 (fun x e => s.readRequest x e 0b00#2 true true) asi ea (s.loadStoreByte asi ea rd) :=
  fun _ hr => by
    rw [State.loadStoreByte, State.exchange]
    exact readAccess_refused (z := .byte) hr

theorem swapWord_refused :
    s.RefusedAs 3#32 (fun x e => s.readRequest x e 0b10#2 true true) asi ea (s.swapWord asi ea rd) :=
  refusedAs_whenAligned (aligned_word_iff ea) fun hr => by
    rw [State.exchange]
    exact readAccess_refused (z := .word) hr

/-! ### The write of an atomic refused (rule R102; U7) -/

/-- What an atomic whose read is accepted and whose write is refused does. -/
def State.AtomicRefusedAs (s : State) (rd : RegNum) (byte : Bool) (x : Asi) (e : Word) (r : Result) : Prop :=
  (byte = true ∨ e &&& 3#32 = 0#32) → s.refuses (s.atomicRead byte x e) = false →
    s.refuses (s.atomicWrite rd byte x e) = true →
    ∃ t, r = .next t ∧ s.EnteredTrap t ∧ t.tt = 0x09#8 ∧ s.SameMemory t ∧ s.SameUnits t ∧ t.y = s.y ∧
      t.bus = s.bus ++ [s.atomicRead byte x e, s.atomicWrite rd byte x e] ∧
      (t.readRegIn s.psr.cwp rd = s.readReg rd ∨ rd ≠ 0#5 ∧ t.readRegIn s.psr.cwp rd = s.atomicOld byte x e) ∧
      s.SameRegsBut t [regIndex s.psr.cwp rd, regIndex (s.psr.cwp - 1#3) 17#5, regIndex (s.psr.cwp - 1#3) 18#5]

/-- No register of a window is r[17] or r[18] of the window below. -/
theorem regIndex_notSaved (w : Window) (n : RegNum) : regIndex w n ∉ [regIndex (w - 1#3) 17#5, regIndex (w - 1#3) 18#5] := by
  revert w n
  decide

/-- Taking a trap leaves the registers of the window that it comes from. -/
theorem State.Keeps.readReg_takeTrap {u : State} (hk : s.Keeps u) (k : Trap) (n : RegNum) :
    (u.takeTrap k).readRegIn s.psr.cwp n = u.readReg n := by
  rw [(traps_takeTrap k u).regs.value _ _ (by rw [hk.psr]; exact regIndex_notSaved _ _), State.readReg, hk.psr]

/-- A register that the model may or may not have written reads as before or as written. -/
theorem readReg_maybeWritten (u : State) (b : Bool) (n : RegNum) (v : Word) (k : Nat) (q : BusRequest) :
    let w := ((if b then u.writeReg n v else u).useFree k).request q
    w.readReg n = u.readReg n ∨ n ≠ 0#5 ∧ w.readReg n = v := by
  cases b with
  | false => exact .inl rfl
  | true =>
    by_cases h : n = 0#5
    · subst h; exact .inl rfl
    · exact .inr ⟨h, (readReg_writeReg_self u n v).trans (if_neg h)⟩

theorem exchange_writeRefused {old : Word} {bs : List Byte} {r w : BusRequest}
    (hread : r = s.readRequest asi ea z.code true true) (hwrite : w = s.writeRequest asi ea z.code true false (busData bs))
    (h1 : s.refuses r = false) (h2 : s.refuses w = true) :
    ∃ t, s.exchange asi ea z rd old bs = .next t ∧ s.EnteredTrap t ∧ t.tt = 0x09#8 ∧ s.SameMemory t ∧ s.SameUnits t ∧
      t.y = s.y ∧ t.bus = s.bus ++ [r, w] ∧
      (t.readRegIn s.psr.cwp rd = s.readReg rd ∨ rd ≠ 0#5 ∧ t.readRegIn s.psr.cwp rd = old) ∧
      s.SameRegsBut t [regIndex s.psr.cwp rd, regIndex (s.psr.cwp - 1#3) 17#5, regIndex (s.psr.cwp - 1#3) 18#5] := by
  subst hread hwrite
  obtain ⟨hk, hregs, hmem, hb⟩ := keeps_refusedSecond s (fun f => Config.freeBit f.freeIdx) rd (fun _ => old) 1
    (s.readRequest asi ea z.code true true) (s.writeRequest asi ea z.code true false (busData bs))
  have hreg := readReg_maybeWritten (s.request (s.readRequest asi ea z.code true true)) (Config.freeBit s.freeIdx) rd old 1
    (s.writeRequest asi ea z.code true false (busData bs))
  rw [State.exchange, readAccess_of_accepted h1, dataRequest_none,
    writeAccess_of_refused (s := s.request (s.readRequest asi ea z.code true true)) h2,
    dataRequest_some, request_writeRequest]
  obtain ⟨he, htt, hunits, hy, hbus, hr⟩ := refused_later hk hregs hb
  refine ⟨_, rfl, he, htt, hmem, hunits, hy, hbus, ?_, hr⟩
  rw [hk.readReg_takeTrap]
  exact hreg

theorem loadStoreByte_writeRefused : s.AtomicRefusedAs rd true asi ea (s.loadStoreByte asi ea rd) := fun _ h1 h2 => by
  rw [State.loadStoreByte, zeroExtend_eq]
  exact exchange_writeRefused (z := .byte) rfl rfl h1 h2

theorem swapWord_writeRefused : s.AtomicRefusedAs rd false asi ea (s.swapWord asi ea rd) := fun ha h1 h2 => by
  rw [State.swapWord, whenAligned_of_aligned ((aligned_word_iff ea).mpr (ha.resolve_left nofun))]
  exact exchange_writeRefused (z := .word) rfl (by rw [busData_bytesOfData]; rfl) h1 h2

/-- Settles O16. -/
theorem refusedAccessesTrap : Obligations.RefusedAccessesTrap := by
  unfold Obligations.RefusedAccessesTrap
  refine ⟨fun s h ha he hi hr => ⟨_, step_fetchRefused h ha he hi hr, (traps_takeTrap _ _).of_before rfl⟩, ?_⟩
  intro s rd rs1 rs2 op2 asi v b0 b1 normal alternate dataAsi traps
  refine ⟨List.forall_iff_forall_mem.mp ?_, ?_⟩
  · exact
      ⟨both_forms (s.RefusedAs 3#32 _) (exec_ld ..) (exec_lda ..) fun _ _ => loadWord_refused,
        both_forms (s.RefusedAs 0#32 _) (exec_ldub ..) (exec_lduba ..) fun _ _ => loadByte_refused,
        both_forms (s.RefusedAs 0#32 _) (exec_ldsb ..) (exec_ldsba ..) fun _ _ => loadByte_refused,
        both_forms (s.RefusedAs 1#32 _) (exec_lduh ..) (exec_lduha ..) fun _ _ => loadHalf_refused,
        both_forms (s.RefusedAs 1#32 _) (exec_ldsh ..) (exec_ldsha ..) fun _ _ => loadHalf_refused,
        both_forms (s.RefusedAs 7#32 _) (exec_ldd ..) (exec_ldda ..) fun _ _ => loadDouble_refused,
        both_forms (s.RefusedAs 3#32 _) (exec_st ..) (exec_sta ..) fun _ _ => storeWord_refused,
        both_forms (s.RefusedAs 0#32 _) (exec_stb ..) (exec_stba ..) fun _ _ => storeByte_refused rfl,
        both_forms (s.RefusedAs 1#32 _) (exec_sth ..) (exec_stha ..) fun _ _ => storeHalf_refused rfl rfl,
        both_forms (s.RefusedAs 7#32 _) (exec_std ..) (exec_stda ..) fun _ _ => storeDouble_refused,
        both_forms (s.RefusedAs 0#32 _) (exec_ldstub ..) (exec_ldstuba ..) fun _ _ => loadStoreByte_refused,
        both_forms (s.RefusedAs 3#32 _) (exec_swap ..) (exec_swapa ..) fun _ _ => swapWord_refused⟩
  · obtain ⟨hb, hba⟩ := both_forms (s.AtomicRefusedAs rd true) (exec_ldstub s rd rs1 op2) (exec_ldstuba s rd rs1 asi rs2)
      fun _ _ => loadStoreByte_writeRefused
    obtain ⟨hw, hwa⟩ := both_forms (s.AtomicRefusedAs rd false) (exec_swap s rd rs1 op2) (exec_swapa s rd rs1 asi rs2)
      fun _ _ => swapWord_writeRefused
    exact List.forall_iff_forall_mem.mp ⟨fun _ => hb, fun hs => hba (hs rfl), fun _ => hw, fun hs => hwa (hs rfl)⟩

end Sys2Proof.Machine
end

section
/-! The FPU and the coprocessor: what their checks lead to, launches, and branches on their condition codes. -/
namespace Sys2Proof.Machine

variable {s : State} {kind : UnitKind} {needs : Word → Bool} {go : State → Result} {i : Instr}

/-! ### The checks passed (rules R363, R394) -/

theorem unitChecks_of_idle (h : s.UnitIdle kind) : s.unitChecks kind needs true go = go s :=
  unitChecks_of_quiet h.enabled h.pending (.inl h.queue)

theorem unitChecks_of_excepting (h : s.UnitExcepting kind) : s.unitChecks kind needs true go = go s :=
  unitChecks_of_quiet h.enabled h.pending (.inr h.exceptionMode)

/-- A unit with work queued: the exception of a queued instruction, or what the instruction does after that work. -/
theorem unitChecks_ends_of_ready {Q : Coproc → State → Prop} (h : s.UnitReady kind)
    (hgo : ∀ u n, s.UnitWorked kind u needs → ∃ t, go (s.afterWork kind (u, n)) = .next t ∧ Q u t) :
    ∃ t, s.unitChecks kind needs true go = .next t ∧
      (s.UnitExcepted t kind ∨ ∃ u, s.UnitWorked kind u needs ∧ Q u t) := by
  rcases unitChecks_of_ready h needs go with ⟨t, ht, hx⟩ | ⟨u, n, hu, hs⟩
  · exact ⟨t, ht, .inl hx⟩
  · obtain ⟨t, ht, hq⟩ := hgo u n hu
    exact ⟨t, hs.trans ht, .inr ⟨u, hu, hq⟩⟩

/-! ### Launches (rules R364, R365, R373, R374) -/

/-- The op field tells the operate instructions, the branches and the memory forms of a unit apart. -/
theorem opClass_of_launchedInto (h : launchedInto i = some kind) : opClass i = 2#2 := by
  cases i <;> first | rfl | cases h

theorem opClass_of_branchesOn (h : branchesOn i = some kind) : opClass i = 0#2 := by
  cases i <;> first | rfl | cases h

theorem opClass_of_movesDataOf (h : movesDataOf i = some kind) : opClass i = 3#2 := by
  cases i <;> first | rfl | cases h

/-- The instructions of a unit are of three classes. -/
theorem class_of_ownsWord (h : kind.ownsWord (encode i) = true) :
    launchedInto i = some kind ∨ branchesOn i = some kind ∨ movesDataOf i = some kind := by
  simpa only [ownsWord_encode, Bool.or_eq_true, beq_iff_eq, or_assoc] using h

theorem launchedInto_of_ownsWord (h : kind.ownsWord (encode i) = true) (ho : fieldOp (encode i) = 2#2) :
    launchedInto i = some kind := by
  rw [fieldOp_encode] at ho
  rcases class_of_ownsWord h with hc | hc | hc
  · exact hc
  · exact absurd ((opClass_of_branchesOn hc).symm.trans ho) (by decide)
  · exact absurd ((opClass_of_movesDataOf hc).symm.trans ho) (by decide)

theorem branchesOn_of_ownsWord (h : kind.ownsWord (encode i) = true) (ho : fieldOp (encode i) = 0#2) :
    branchesOn i = some kind := by
  rw [fieldOp_encode] at ho
  rcases class_of_ownsWord h with hc | hc | hc
  · exact absurd ((opClass_of_launchedInto hc).symm.trans ho) (by decide)
  · exact hc
  · exact absurd ((opClass_of_movesDataOf hc).symm.trans ho) (by decide)

/-- What a launch leaves behind. -/
def State.LaunchEnds (s t : State) (kind : UnitKind) : Prop :=
  s.OnlyUnit t kind ∧ s.SameMemory t ∧ t.bus = s.bus ∧ ∃ b, t.signals = s.signals ++ [kind.startSignal b]

/-- The state in which a launch ends. -/
def State.launched (s : State) (kind : UnitKind) (w : Word) : State :=
  (((s.setUnit kind ((s.unit kind).launch s.pc w)).pulse (kind.startSignal (Config.freeBit s.freeIdx))).useFree
    1).retire.advance

theorem operate_eq (w : Word) :
    s.operate kind w = s.unitChecks kind (kind.depends w) true fun t => .next (t.launched kind w) := rfl

theorem launched_ends (s : State) (kind : UnitKind) (w : Word) :
    s.LaunchEnds (s.launched kind w) kind ∧ (s.launched kind w).unit kind = (s.unit kind).launch s.pc w := by
  obtain ⟨hunit, hmem, hbus, hsignals, hu⟩ := launch_ends s kind ((s.unit kind).launch s.pc w) 1
    (kind.startSignal (Config.freeBit s.freeIdx))
  exact ⟨⟨hunit, hmem, hbus, _, hsignals⟩, hu⟩

/-- Work on the queue before a launch. -/
theorem State.LaunchEnds.of_work {t : State} {r : Coproc × Nat} (h : (s.afterWork kind r).LaunchEnds t kind) :
    s.LaunchEnds t kind := by
  obtain ⟨hunit, hmem, hbus, b, hsignals⟩ := h
  exact ⟨hunit.of_work, fun x a => (hmem x a).trans (readByte_congr rfl rfl x a), hbus, b, hsignals⟩

theorem launch_of_mode {u : Coproc} (h : u.excMode = false) (a w : Word) :
    u.launch a w = { u with queue := u.queue ++ [(a, w)] } := by
  rw [Coproc.launch, h, if_neg Bool.false_ne_true]

/-- Settles O48. -/
theorem operateLaunches : Obligations.OperateLaunches := by
  unfold Obligations.OperateLaunches
  intro s i kind _ ho hk ends
  have he : exec i s = s.operate kind (encode i) := exec_launchedInto (launchedInto_of_ownsWord hk ho) s
  rw [he, operate_eq]
  refine ⟨fun h => ?_, fun h => ?_, fun h => ?_⟩
  · rw [unitChecks_of_idle h]
    obtain ⟨hends, hunit⟩ := launched_ends s kind (encode i)
    refine ⟨_, rfl, hends, hunit.trans ?_⟩
    rw [launch_of_mode h.exceptionMode, h.queue, List.nil_append]
  · have hr := unitChecks_ends_of_ready (needs := kind.depends (encode i))
      (go := fun t => .next (t.launched kind (encode i)))
      (Q := fun u t => ends t ∧ t.unit kind = { u with queue := u.queue ++ [(s.pc, encode i)] }) h fun u n hu => ?_
    · obtain ⟨t, ht, hx | ⟨u, hu, hends, hunit⟩⟩ := hr
      · exact ⟨t, ht, .inl hx⟩
      · exact ⟨t, ht, .inr ⟨hends, u, hu, hunit⟩⟩
    · obtain ⟨hends, hunit⟩ := launched_ends (s.afterWork kind (u, n)) kind (encode i)
      refine ⟨_, rfl, hends.of_work, hunit.trans ?_⟩
      rw [unit_afterWork, launch_of_mode hu.exceptionMode]
      rfl
  · rw [unitChecks_of_excepting h]
    obtain ⟨hends, hunit⟩ := launched_ends s kind (encode i)
    refine ⟨_, rfl, hends, hunit.trans ?_⟩
    rw [Coproc.launch, h.exceptionMode, if_pos rfl]

/-! ### Branches on condition codes (rules R304 to R307, R393) -/

/-- What a branch of an enabled unit does: at once, or after work on the queue. -/
def State.UnitBranches (s : State) (kind : UnitKind) (values : List Nat) (always a : Bool) (d : BitVec 22) (r : Result) :
    Prop :=
  (s.UnitIdle kind ∨ s.UnitExcepting kind → ∃ t, r = .next t ∧
      s.Branches t (values.contains (s.unitCc kind).toNat) always a (s.branchBase + BitVec.ofInt 32 (4 * d.toInt))) ∧
    (s.UnitReady kind → ∃ t, r = .next t ∧
      (s.UnitExcepted t kind ∨
        ∃ u, s.UnitWorked kind u (fun _ => false) ∧
          (s.setUnit kind u).Branches t (values.contains (kind.ccField u.status).toNat) always a
            (s.branchBase + BitVec.ofInt 32 (4 * d.toInt))))

/-- The test of the branch says whether the condition codes are among the values. -/
theorem unitBranch_ends {cond : BitVec 4} {test : BitVec 2 → Bool} {values : List Nat} {always a : Bool} {d : BitVec 22}
    {r : Result} (hr : r = s.unitChecks kind needsNone true fun t => .next (t.branch cond (test (t.unitCc kind)) a d))
    (htest : ∀ cc, test cc = values.contains cc.toNat) (hal : always = condAlways cond) :
    s.UnitBranches kind values always a d r := by
  subst hr hal
  have hgo (u : State) {cc : BitVec 2} (hcc : u.unitCc kind = cc) :
      u.Branches (u.branch cond (test (u.unitCc kind)) a d) (values.contains cc.toNat) (condAlways cond) a
        (u.branchBase + BitVec.ofInt 32 (4 * d.toInt)) := by
    rw [htest, hcc]
    exact branches_branch u cond _ a d
  refine ⟨fun h => ⟨_, h.elim unitChecks_of_idle unitChecks_of_excepting, hgo s rfl⟩, fun h => ?_⟩
  refine unitChecks_ends_of_ready (needs := needsNone) h fun u n _ => ⟨_, rfl, ?_⟩
  exact (hgo (s.afterWork kind (u, n)) (by rw [State.unitCc, unit_afterWork])).of_work

theorem branchFcc_of_parity (h : s.fiparFails = false) (cond : BitVec 4) (a : Bool) (d : BitVec 22) :
    s.branchFcc cond a d =
      s.unitChecks .fpu needsNone true fun t => .next (t.branch cond (fccTest cond (t.unitCc .fpu)) a d) := by
  rw [State.branchFcc, h, if_neg Bool.false_ne_true]

theorem fbfcc_ends {cond : BitVec 4} (values : List Nat) {always a : Bool} {d : BitVec 22}
    (he : exec i s = s.branchFcc cond a d) (htest : ∀ cc, fccTest cond cc = values.contains cc.toNat)
    (hal : always = condAlways cond) (hf : s.fiparFails = false) : s.UnitBranches .fpu values always a d (exec i s) :=
  unitBranch_ends (he.trans (branchFcc_of_parity hf cond a d)) htest hal

/-- Settles O40. -/
theorem fccBranches : Obligations.FccBranches := by
  unfold Obligations.FccBranches
  intro s a d base target
  exact List.forall_iff_forall_mem.mp
    ⟨fbfcc_ends [] (exec_fbn ..) (by decide) rfl, fbfcc_ends [1, 2, 3] (exec_fbne ..) (by decide) rfl,
      fbfcc_ends [1, 2] (exec_fblg ..) (by decide) rfl, fbfcc_ends [1, 3] (exec_fbul ..) (by decide) rfl,
      fbfcc_ends [1] (exec_fbl ..) (by decide) rfl, fbfcc_ends [2, 3] (exec_fbug ..) (by decide) rfl,
      fbfcc_ends [2] (exec_fbg ..) (by decide) rfl, fbfcc_ends [3] (exec_fbu ..) (by decide) rfl,
      fbfcc_ends [0, 1, 2, 3] (exec_fba ..) (by decide) (beq_self_eq_true _), fbfcc_ends [0] (exec_fbe ..) (by decide) rfl,
      fbfcc_ends [0, 3] (exec_fbue ..) (by decide) rfl, fbfcc_ends [0, 2] (exec_fbge ..) (by decide) rfl,
      fbfcc_ends [0, 2, 3] (exec_fbuge ..) (by decide) rfl, fbfcc_ends [0, 1] (exec_fble ..) (by decide) rfl,
      fbfcc_ends [0, 1, 3] (exec_fbule ..) (by decide) rfl, fbfcc_ends [0, 1, 2] (exec_fbo ..) (by decide) rfl⟩

theorem cbccc_ends {cond : BitVec 4} (values : List Nat) {always a : Bool} {d : BitVec 22}
    (he : exec i s = s.branchCcc cond a d) (htest : ∀ cc, cccTest cond cc = values.contains cc.toNat)
    (hal : always = condAlways cond) : s.UnitBranches .cp values always a d (exec i s) :=
  unitBranch_ends he htest hal

/-- Settles O41. -/
theorem cccBranches : Obligations.CccBranches := by
  unfold Obligations.CccBranches
  intro s a d base target
  exact List.forall_iff_forall_mem.mp
    ⟨cbccc_ends [] (exec_cbn ..) (by decide) rfl, cbccc_ends [1, 2, 3] (exec_cb123 ..) (by decide) rfl,
      cbccc_ends [1, 2] (exec_cb12 ..) (by decide) rfl, cbccc_ends [1, 3] (exec_cb13 ..) (by decide) rfl,
      cbccc_ends [1] (exec_cb1 ..) (by decide) rfl, cbccc_ends [2, 3] (exec_cb23 ..) (by decide) rfl,
      cbccc_ends [2] (exec_cb2 ..) (by decide) rfl, cbccc_ends [3] (exec_cb3 ..) (by decide) rfl,
      cbccc_ends [0, 1, 2, 3] (exec_cba ..) (by decide) (beq_self_eq_true _), cbccc_ends [0] (exec_cb0 ..) (by decide) rfl,
      cbccc_ends [0, 3] (exec_cb03 ..) (by decide) rfl, cbccc_ends [0, 2] (exec_cb02 ..) (by decide) rfl,
      cbccc_ends [0, 2, 3] (exec_cb023 ..) (by decide) rfl, cbccc_ends [0, 1] (exec_cb01 ..) (by decide) rfl,
      cbccc_ends [0, 1, 3] (exec_cb013 ..) (by decide) rfl, cbccc_ends [0, 1, 2] (exec_cb012 ..) (by decide) rfl⟩

/-! ### Disabled units, wrong FIPAR, pending exceptions (rules R361 to R363, R396, R397, R453) -/

/-- The meaning of a branch on condition codes. -/
def State.branchCc (s : State) (cond : BitVec 4) (a : Bool) (d : BitVec 22) : UnitKind → Result
  | .fpu => s.branchFcc cond a d
  | .cp => s.branchCcc cond a d

theorem exec_branchesOn (h : branchesOn i = some kind) (s : State) :
    ∃ cond a d, exec i s = s.branchCc cond a d kind := by
  cases i <;> first | (cases h; exact ⟨_, _, _, rfl⟩) | cases h

/-- An instruction begins with the checks of a unit. -/
def State.Checks (s : State) (kind : UnitKind) (aligned : Bool) (r : Result) : Prop :=
  ∃ needs go, r = s.unitChecks kind needs aligned go

theorem checks_unitLoad (s : State) (kind : UnitKind) (rd : RegNum) (ea : Word) :
    s.Checks kind (Size.word.aligned ea) (s.unitLoad kind rd ea) := ⟨_, _, rfl⟩

theorem checks_unitLoadDouble (s : State) (kind : UnitKind) (rd : RegNum) (ea : Word) :
    s.Checks kind (Size.dbl.aligned ea) (s.unitLoadDouble kind rd ea) := ⟨_, _, rfl⟩

theorem checks_unitLoadStatus (s : State) (kind : UnitKind) (ea : Word) :
    s.Checks kind (Size.word.aligned ea) (s.unitLoadStatus kind ea) := ⟨_, _, rfl⟩

theorem checks_unitStoreWord (s : State) (kind : UnitKind) (needs : Word → Bool) (ea : Word) (value : Coproc → Word) :
    s.Checks kind (Size.word.aligned ea) (s.unitStoreWord kind needs ea value) := ⟨_, _, rfl⟩

theorem checks_unitStoreDouble (s : State) (kind : UnitKind) (rd : RegNum) (ea : Word) :
    s.Checks kind (Size.dbl.aligned ea) (s.unitStoreDouble kind rd ea) := ⟨_, _, rfl⟩

theorem checks_unitStoreQueue (hs : s.psr.s = true) (kind : UnitKind) (ea : Word) :
    s.Checks kind (Size.dbl.aligned ea) (s.unitStoreQueue kind ea) := ⟨_, _, supervisorOnly_of_supervisor hs⟩

/-- The memory forms of a unit begin with its checks; of the queue stores this is said in supervisor mode. -/
theorem exec_movesDataOf (h : movesDataOf i = some kind)
    (hs : s.psr.s = true ∨ ∀ rd rs1 op2, i ≠ .stdfq rd rs1 op2 ∧ i ≠ .stdcq rd rs1 op2) :
    ∃ aligned, s.Checks kind aligned (exec i s) := by
  cases i <;> try cases h
  case ldf | ldc => exact ⟨_, checks_unitLoad ..⟩
  case ldfsr | ldcsr => exact ⟨_, checks_unitLoadStatus ..⟩
  case lddf | lddc => exact ⟨_, checks_unitLoadDouble ..⟩
  case stf rd rs1 op2 =>
    exact ⟨_, checks_unitStoreWord s .fpu (UnitKind.computes .fpu (regMask rd)) (s.effAddr rs1 op2) (·.readReg rd)⟩
  case stc rd rs1 op2 =>
    exact ⟨_, checks_unitStoreWord s .cp (UnitKind.computes .cp (regMask rd)) (s.effAddr rs1 op2) (·.readReg rd)⟩
  case stfsr rd rs1 op2 => exact ⟨_, checks_unitStoreWord s .fpu needsAll (s.effAddr rs1 op2) (·.status)⟩
  case stcsr rd rs1 op2 => exact ⟨_, checks_unitStoreWord s .cp needsAll (s.effAddr rs1 op2) (·.status)⟩
  case stdf | stdc => exact ⟨_, checks_unitStoreDouble ..⟩
  case stdfq rd rs1 op2 =>
    exact ⟨_, checks_unitStoreQueue (hs.resolve_right fun hn => (hn rd rs1 op2).1 rfl) ..⟩
  case stdcq rd rs1 op2 =>
    exact ⟨_, checks_unitStoreQueue (hs.resolve_right fun hn => (hn rd rs1 op2).2 rfl) ..⟩

theorem branchCc_of_disabled (h : s.unitEnabled kind = false) (cond : BitVec 4) (a : Bool) (d : BitVec 22) :
    s.branchCc cond a d kind = s.raise kind.disabledTrap := by
  cases kind with
  | fpu =>
    rw [State.branchCc, State.branchFcc, unitChecks_of_disabled h]
    exact ite_self _
  | cp => rw [State.branchCc, State.branchCcc, unitChecks_of_disabled h]

/-- Whatever the class of the instruction, a disabled unit raises its trap. -/
theorem exec_of_disabled (hk : kind.ownsWord (encode i) = true) (h : s.unitEnabled kind = false)
    (hs : s.psr.s = true ∨ ∀ rd rs1 op2, i ≠ .stdfq rd rs1 op2 ∧ i ≠ .stdcq rd rs1 op2) :
    exec i s = s.raise kind.disabledTrap := by
  rcases class_of_ownsWord hk with hc | hc | hc
  · rw [exec_launchedInto hc, operate_eq, unitChecks_of_disabled h]
  · obtain ⟨cond, a, d, he⟩ := exec_branchesOn hc s
    rw [he, branchCc_of_disabled h]
  · obtain ⟨aligned, needs, go, he⟩ := exec_movesDataOf hc hs
    rw [he, unitChecks_of_disabled h]

theorem traps_disabled (s : State) (kind : UnitKind) :
    ∃ t, s.raise kind.disabledTrap = .next t ∧ State.Traps kind.disabledTrap s t ∧ s.SameUnits t := by
  refine ⟨_, raise_eq _ s, traps_takeTrap _ s, ?_⟩
  cases kind <;> exact ⟨rfl, rfl⟩

/-- Settles O49. -/
theorem disabledUnitTraps : Obligations.DisabledUnitTraps := by
  unfold Obligations.DisabledUnitTraps
  intro s i
  have h (kind : UnitKind) (hk : kind.ownsWord (encode i) = true) (he : s.unitEnabled kind = false)
      (hs : s.psr.s = true ∨ ∀ rd rs1 op2, i ≠ .stdfq rd rs1 op2 ∧ i ≠ .stdcq rd rs1 op2) :
      ∃ t, exec i s = .next t ∧ State.Traps kind.disabledTrap s t ∧ s.SameUnits t := by
    rw [exec_of_disabled hk he hs]
    exact traps_disabled s kind
  exact List.forall_iff_forall_mem.mp ⟨h .fpu, h .cp⟩

/-- The trap of a pending exception, and exception mode entered. -/
def State.Excepts (s : State) (kind : UnitKind) (i : Instr) : Prop :=
  ∃ t, exec i s = .next t ∧ State.Traps kind.exceptionTrap s t ∧
    t.unit kind = { s.unit kind with excPending := false, excMode := true }

theorem excepts_of_checks {aligned : Bool} (he : s.unitEnabled kind = true) (hp : (s.unit kind).excPending = true)
    (h : s.Checks kind aligned (exec i s)) (ha : aligned = true) : s.Excepts kind i := by
  subst ha
  obtain ⟨needs, go, h⟩ := h
  refine ⟨_, h.trans (unitChecks_of_pending he hp), traps_takeTrap _ s, ?_⟩
  cases kind <;> rfl

theorem excepts_operate (he : s.unitEnabled kind = true) (hp : (s.unit kind).excPending = true)
    (hk : kind.ownsWord (encode i) = true) (ho : fieldOp (encode i) = 2#2) : s.Excepts kind i :=
  excepts_of_checks he hp ⟨_, _, exec_launchedInto (launchedInto_of_ownsWord hk ho) s⟩ rfl

theorem excepts_branch (he : s.unitEnabled kind = true) (hp : (s.unit kind).excPending = true)
    (hk : kind.ownsWord (encode i) = true) (ho : fieldOp (encode i) = 0#2) (hf : kind = .fpu → s.fiparFails = false) :
    s.Excepts kind i := by
  obtain ⟨cond, a, d, h⟩ := exec_branchesOn (branchesOn_of_ownsWord hk ho) s
  cases kind with
  | fpu => exact excepts_of_checks he hp ⟨_, _, h.trans (branchFcc_of_parity (hf rfl) cond a d)⟩ rfl
  | cp => exact excepts_of_checks he hp ⟨_, _, h.trans (by rw [State.branchCc, State.branchCcc])⟩ rfl

/-- A wrong FIPAR is reported as fp_disabled (rule R453). -/
theorem fipar_traps (hf : s.fiparFails = true) (hk : fpWord (encode i) = true) (ho : fieldOp (encode i) = 0#2) :
    ∃ t, exec i s = .next t ∧ State.Traps .fpDisabled s t ∧ s.SameUnits t := by
  obtain ⟨cond, a, d, h⟩ := exec_branchesOn (branchesOn_of_ownsWord (kind := .fpu) hk ho) s
  rw [h, State.branchCc, State.branchFcc, hf, if_pos rfl]
  exact traps_disabled s .fpu

/-- Settles O50. -/
theorem pendingExceptionTraps : Obligations.PendingExceptionTraps := by
  unfold Obligations.PendingExceptionTraps
  refine ⟨fun s i => fipar_traps, ?_⟩
  intro s rd rs1 op2 ea
  have word (h : ea &&& 3#32 = 0#32) : Size.word.aligned (s.effAddr rs1 op2) = true := (aligned_word_iff _).mpr h
  have dbl (h : ea &&& 7#32 = 0#32) : Size.dbl.aligned (s.effAddr rs1 op2) = true := (aligned_dbl_iff _).mpr h
  refine List.forall_iff_forall_mem.mp ⟨fun he hp => ⟨fun i => excepts_operate he hp, fun i => excepts_branch he hp,
    fun h => ?_, fun h => ⟨?_, fun hs => ?_⟩⟩, fun he hp => ⟨fun i => excepts_operate he hp, fun i => excepts_branch he hp,
    fun h => ?_, fun h => ⟨?_, fun hs => ?_⟩⟩⟩
  · exact List.forall_iff_forall_mem.mp
      ⟨excepts_of_checks he hp (checks_unitLoad ..) (word h), excepts_of_checks he hp (checks_unitLoadStatus ..) (word h),
        excepts_of_checks he hp
          (checks_unitStoreWord s .fpu (UnitKind.computes .fpu (regMask rd)) (s.effAddr rs1 op2) (·.readReg rd)) (word h),
        excepts_of_checks he hp (checks_unitStoreWord s .fpu needsAll (s.effAddr rs1 op2) (·.status)) (word h)⟩
  · exact List.forall_iff_forall_mem.mp
      ⟨excepts_of_checks he hp (checks_unitLoadDouble ..) (dbl h),
        excepts_of_checks he hp (checks_unitStoreDouble ..) (dbl h)⟩
  · exact excepts_of_checks he hp (checks_unitStoreQueue hs ..) (dbl h)
  · exact List.forall_iff_forall_mem.mp
      ⟨excepts_of_checks he hp (checks_unitLoad ..) (word h), excepts_of_checks he hp (checks_unitLoadStatus ..) (word h),
        excepts_of_checks he hp
          (checks_unitStoreWord s .cp (UnitKind.computes .cp (regMask rd)) (s.effAddr rs1 op2) (·.readReg rd)) (word h),
        excepts_of_checks he hp (checks_unitStoreWord s .cp needsAll (s.effAddr rs1 op2) (·.status)) (word h)⟩
  · exact List.forall_iff_forall_mem.mp
      ⟨excepts_of_checks he hp (checks_unitLoadDouble ..) (dbl h),
        excepts_of_checks he hp (checks_unitStoreDouble ..) (dbl h)⟩
  · exact excepts_of_checks he hp (checks_unitStoreQueue hs ..) (dbl h)

end Sys2Proof.Machine
end

section
/-! The loads of the FPU and the coprocessor. -/
namespace Sys2Proof.Machine

variable {s : State} {kind : UnitKind} {needs : Word → Bool} {go : State → Result}

/-! ### What holds from the state after work on a queue holds from the state before -/

section Work

variable {t : State} {r : Coproc × Nat}

theorem State.EnteredTrap.of_work (h : (s.afterWork kind r).EnteredTrap t) : s.EnteredTrap t :=
  ⟨h.et, h.supervisor, h.ps, h.cwp, h.pc, h.npc, h.annul, h.tba, h.wim, h.mode⟩

theorem State.SameRegsBut.of_work {l : List Nat} (h : (s.afterWork kind r).SameRegsBut t l) : s.SameRegsBut t l :=
  (sameRegsBut_of_eq (s := s) (t := s.afterWork kind r) (l := []) rfl rfl rfl).trans h

theorem State.SameMemory.of_work (h : (s.afterWork kind r).SameMemory t) : s.SameMemory t := fun x a =>
  (h x a).trans (readByte_congr rfl rfl x a)

theorem State.SameMemoryBut.of_work {x : Asi} {e : Word} {k : Nat} (h : (s.afterWork kind r).SameMemoryBut t x e k) :
    s.SameMemoryBut t x e k := fun x' a ha => (h x' a ha).trans (readByte_congr rfl rfl x' a)

theorem State.BusGrows.of_work {l : List BusRequest} (h : (s.afterWork kind r).BusGrows t l) : s.BusGrows t l :=
  ⟨h.bus, h.signals⟩

/-- A trap changes neither unit, but for a unit's own exception. -/
theorem State.SameUnits.unit {u : State} (h : u.SameUnits t) (k : UnitKind) : t.unit k = u.unit k := by
  cases k
  · exact h.fpu
  · exact h.cp

end Work

/-- The three ways on: at once, when the unit is idle or in exception mode; after work on its queue; or to the trap of a queued
instruction. -/
theorem unitChecks_ends {Q : Coproc → State → Prop}
    (hgo : ∀ v n, ∃ t, go (s.afterWork kind (v, n)) = .next t ∧ Q v t) :
    (s.UnitIdle kind ∨ s.UnitExcepting kind → ∃ t, s.unitChecks kind needs true go = .next t ∧ Q (s.unit kind) t) ∧
      (s.UnitReady kind → ∃ t, s.unitChecks kind needs true go = .next t ∧
        (s.UnitExcepted t kind ∨ ∃ u, s.UnitWorked kind u needs ∧ Q u t)) := by
  refine ⟨fun h => ?_, fun h => unitChecks_ends_of_ready h fun u n _ => hgo u n⟩
  rw [h.elim unitChecks_of_idle unitChecks_of_excepting]
  have hs := hgo (s.unit kind) s.freeIdx
  rwa [afterWork_same] at hs

/-! ### Loads (rules R366 to R368, R376 to R378) -/

/-- What an accepted load leaves alone. -/
def State.UnitLoadEnds (s t : State) (kind : UnitKind) (requests : List BusRequest) : Prop :=
  s.OnlyUnit t kind ∧ s.SameMemory t ∧ s.BusGrows t requests

/-- The load of an enabled unit, all its requests accepted. -/
def State.UnitLoadAccepted (s : State) (kind : UnitKind) (requests : List BusRequest) (waits : Word → Bool)
    (f : Coproc → Coproc) (r : Result) : Prop :=
  (s.UnitIdle kind → ∃ t, r = .next t ∧ s.UnitLoadEnds t kind requests ∧ t.unit kind = f (s.unit kind)) ∧
    (s.UnitReady kind → ∃ t, r = .next t ∧
      (s.UnitExcepted t kind ∨
        s.UnitLoadEnds t kind requests ∧ ∃ u, s.UnitWorked kind u waits ∧ t.unit kind = f u)) ∧
    (s.UnitExcepting kind → ∃ t, r = .next t ∧ s.UnitLoadEnds t kind requests ∧ t.unit kind = s.unit kind)

theorem accept_of_exceptionMode {u : Coproc} (h : u.excMode = true) (f : Coproc → Coproc) : u.accept f = u := if_pos h

theorem unitLoad_accepted {requests : List BusRequest} {f : Coproc → Coproc}
    (hgo : ∀ v n, ∃ t, go (s.afterWork kind (v, n)) = .next t ∧ s.UnitLoadEnds t kind requests ∧
      t.unit kind = v.accept f) :
    s.UnitLoadAccepted kind requests needs f (s.unitChecks kind needs true go) := by
  obtain ⟨now, later⟩ := unitChecks_ends (needs := needs)
    (Q := fun v t => s.UnitLoadEnds t kind requests ∧ t.unit kind = v.accept f) hgo
  refine ⟨fun h => ?_, fun h => ?_, fun h => ?_⟩
  · obtain ⟨t, ht, hends, hunit⟩ := now (.inl h)
    exact ⟨t, ht, hends, hunit.trans (accept_of_mode h.exceptionMode f)⟩
  · obtain ⟨t, ht, hx | ⟨u, hu, hends, hunit⟩⟩ := later h
    · exact ⟨t, ht, .inl hx⟩
    · exact ⟨t, ht, .inr ⟨hends, u, hu, hunit.trans (accept_of_mode hu.exceptionMode f)⟩⟩
  · obtain ⟨t, ht, hends, hunit⟩ := now (.inr h)
    exact ⟨t, ht, hends, hunit.trans (accept_of_exceptionMode h.exceptionMode f)⟩

theorem State.UnitLoadEnds.of_work {t : State} {r : Coproc × Nat} {requests : List BusRequest}
    (h : (s.afterWork kind r).UnitLoadEnds t kind requests) : s.UnitLoadEnds t kind requests := by
  obtain ⟨hunit, hmem, hbus⟩ := h
  exact ⟨hunit.of_work, hmem.of_work, hbus.of_work⟩

/-- A load of one word, its request accepted. -/
theorem loadOne_ends {x : Asi} {ea : Word} (hr : s.refuses (s.readRequest x ea 0b10#2 false false) = false)
    (kind : UnitKind) (f : Coproc → Coproc) :
    ∃ t, (s.readAccess x ea .word false false id fun t1 => (t1.setUnit kind ((t1.unit kind).accept f)).complete) = .next t ∧
      s.UnitLoadEnds t kind [s.readRequest x ea 0b10#2 false false] ∧ t.unit kind = (s.unit kind).accept f := by
  obtain ⟨hunit, hmem, hbus, hv⟩ := accept_ends (keeps_request s (s.readRequest x ea 0b10#2 false false))
    (sameRegsBut_of_eq rfl rfl rfl) rfl rfl rfl kind f
  exact ⟨_, readAccess_of_accepted hr, ⟨hunit, hmem, hbus⟩, hv⟩

/-- A load of two words, both requests accepted. -/
theorem loadTwo_ends {x : Asi} {ea : Word} (h1 : s.refuses (s.readRequest x ea 0b11#2 false true) = false)
    (h2 : s.refuses (s.readRequest x (ea + 4#32) 0b11#2 false false) = false) (e : State → State) (kind : UnitKind)
    (f : Coproc → Coproc) :
    ∃ t, (s.readAccess x ea .dbl false true id fun t1 =>
          t1.readAccess x (ea + 4#32) .dbl false false e fun t2 =>
            (t2.setUnit kind ((t2.unit kind).accept f)).complete) = .next t ∧
      s.UnitLoadEnds t kind [s.readRequest x ea 0b11#2 false true, s.readRequest x (ea + 4#32) 0b11#2 false false] ∧
      t.unit kind = (s.unit kind).accept f := by
  rw [twoReads_eq h1, if_neg (by rw [h2]; exact Bool.false_ne_true)]
  obtain ⟨hunit, hmem, hbus, hv⟩ := accept_ends
    ((keeps_request s (s.readRequest x ea 0b11#2 false true)).trans
      (keeps_request _ (s.readRequest x (ea + 4#32) 0b11#2 false false)))
    (sameRegsBut_of_eq rfl rfl rfl) rfl rfl (List.append_assoc s.bus [_] [_]) kind f
  exact ⟨_, rfl, ⟨hunit, hmem, hbus⟩, hv⟩

/-- The first request of a load is refused. -/
def State.LoadRefused (s : State) (requests : List BusRequest) (r : Result) : Prop :=
  ∀ q ∈ requests.head?, s.refuses q = true →
    ∃ t, r = .next t ∧ State.Traps .dataAccessException s t ∧ s.SameUnits t ∧ t.bus = s.bus ++ [q]

/-- The second request of a double load is refused: the even register of the unit may hold anything. -/
def State.SecondLoadRefused (s : State) (kind : UnitKind) (even : RegNum) (first second : BusRequest) (r : Result) : Prop :=
  s.refuses first = false → s.refuses second = true →
    ∃ t, r = .next t ∧ s.EnteredTrap t ∧ t.tt = 0x09#8 ∧ s.SameMemory t ∧ t.y = s.y ∧
      t.bus = s.bus ++ [first, second] ∧
      s.SameRegsBut t [regIndex (s.psr.cwp - 1#3) 17#5, regIndex (s.psr.cwp - 1#3) 18#5] ∧
      (∀ k, k ≠ kind → t.unit k = s.unit k) ∧
      ∃ w, t.unit kind = if (s.unit kind).excMode then s.unit kind else (s.unit kind).writeReg even w

theorem loadRefused_of {x : Asi} {ea : Word} {z : Size} {l k : Bool} {more : List BusRequest} (go : State → Result) :
    s.LoadRefused (s.readRequest x ea z.code l k :: more) (s.readAccess x ea z l k id go) := by
  rintro q ⟨⟩ hr
  exact readAccess_refused hr

/-- The unit took something between two requests. -/
theorem keeps_unitTook (s : State) (kind : UnitKind) (c : Coproc) (r q : BusRequest) :
    let u := (((s.request r).setUnit kind c).useFree 1).request q
    let w := s.afterWork kind (c, s.freeIdx)
    w.Keeps u ∧ w.SameRegsBut u [] ∧ s.SameMemory u ∧ u.bus = w.bus ++ [r, q] := by
  intro u w
  have hmem : u.mem = s.mem := by simp [u]
  have hplatform : u.platform = s.platform := by simp [u]
  exact ⟨⟨rfl, rfl, ⟨rfl, rfl, rfl, rfl, rfl, rfl, rfl, rfl, rfl, rfl⟩, ⟨rfl, rfl⟩, rfl, rfl, rfl, rfl, rfl⟩,
    sameRegsBut_of_eq rfl rfl rfl, sameMemory_of_mem hmem hplatform, List.append_assoc s.bus [r] [q]⟩

/-- A request refused after work on the queue: what the trap leaves. -/
theorem refused_afterWork {v : Coproc} {n : Nat} {u : State} {requests : List BusRequest}
    (hk : (s.afterWork kind (v, n)).Keeps u) (hregs : (s.afterWork kind (v, n)).SameRegsBut u [])
    (hb : u.bus = (s.afterWork kind (v, n)).bus ++ requests) :
    s.EnteredTrap (u.takeTrap .dataAccessException) ∧ (u.takeTrap .dataAccessException).tt = 0x09#8 ∧
      (u.takeTrap .dataAccessException).y = s.y ∧ (u.takeTrap .dataAccessException).bus = s.bus ++ requests ∧
      s.SameRegsBut (u.takeTrap .dataAccessException) [regIndex (s.psr.cwp - 1#3) 17#5, regIndex (s.psr.cwp - 1#3) 18#5] ∧
      (∀ k, k ≠ kind → (u.takeTrap .dataAccessException).unit k = s.unit k) ∧
      (u.takeTrap .dataAccessException).unit kind = v := by
  obtain ⟨he, htt, hunits, hy, hbus, hr⟩ := refused_later hk hregs hb
  exact ⟨he.of_work, htt, hy, hbus, hr.of_work, fun k hne => (hunits.unit k).trans (unit_afterWork_other s hne _),
    (hunits.unit kind).trans (unit_afterWork s kind _)⟩

theorem sameMemory_takeTrap {u : State} (h : s.SameMemory u) (k : Trap) : s.SameMemory (u.takeTrap k) :=
  fun x a => ((traps_takeTrap k u).memory x a).trans (h x a)

theorem loadTwo_refused (x : Asi) (ea : Word) (kind : UnitKind) (even : RegNum) (go : State → Result) :
    s.SecondLoadRefused kind even (s.readRequest x ea 0b11#2 false true) (s.readRequest x (ea + 4#32) 0b11#2 false false)
      (s.readAccess x ea .dbl false true id fun t1 =>
        t1.readAccess x (ea + 4#32) .dbl false false
          (fun f => State.useFree
            (f.setUnit kind ((f.unit kind).accept fun u => u.writeReg even (Config.freeWord f.freeIdx))) 1) go) := by
  intro h1 h2
  rw [twoReads_eq h1, if_pos h2, unit_request]
  obtain ⟨hk, hregs, hmem, hb⟩ := keeps_unitTook s kind
    ((s.unit kind).accept fun u => u.writeReg even (Config.freeWord s.freeIdx))
    (s.readRequest x ea 0b11#2 false true) (s.readRequest x (ea + 4#32) 0b11#2 false false)
  obtain ⟨he, htt, hy, hbus, hr, hother, hunit⟩ := refused_afterWork hk hregs hb
  exact ⟨_, raise_eq _ _, he, htt, sameMemory_takeTrap hmem _, hy, hbus, hr, hother, Config.freeWord s.freeIdx, hunit⟩

/-! ### What a request is does not depend on the work -/

section

variable (r : Coproc × Nat)

theorem afterWork_dataAsi : (s.afterWork kind r).dataAsi = s.dataAsi := rfl

theorem afterWork_readWord (x : Asi) (e : Word) : (s.afterWork kind r).readWord x e = s.readWord x e :=
  readWord_congr fun _ _ => readByte_congr rfl rfl _ _

end

/-! ### The three loads -/

/-- What the load of an enabled unit from an aligned address does. -/
def State.UnitLoadsAs (s : State) (kind : UnitKind) (requests : List BusRequest) (waits : Word → Bool) (f : Coproc → Coproc)
    (second : Result → Prop) (r : Result) : Prop :=
  ((∀ q ∈ requests, s.refuses q = false) → s.UnitLoadAccepted kind requests waits f r) ∧
    (s.UnitIdle kind ∨ s.UnitExcepting kind → s.LoadRefused requests r ∧ second r)

section

variable {rd : RegNum} {ea : Word} {second : Result → Prop}

/-- A load of one word, of a register or of the status register. -/
theorem loadOne_loads (ha : ea &&& 3#32 = 0#32) (hn : ∀ r, second r) (f : Word → Coproc → Coproc) :
    s.UnitLoadsAs kind [s.readRequest s.dataAsi ea 0b10#2 false false] needs (f (s.readWord s.dataAsi ea)) second
      (s.unitChecks kind needs (Size.word.aligned ea) fun t =>
        t.readAccess t.dataAsi ea .word false false id fun t1 =>
          (t1.setUnit kind ((t1.unit kind).accept (f (t.readWord t.dataAsi ea)))).complete) := by
  rw [(aligned_word_iff ea).mpr ha]
  refine ⟨fun hr => unitLoad_accepted fun v n => ?_, fun h => ?_⟩
  · have h := loadOne_ends (s := s.afterWork kind (v, n)) (hr _ List.mem_cons_self) kind (f (s.readWord s.dataAsi ea))
    rw [unit_afterWork] at h
    simp only [afterWork_dataAsi, afterWork_readWord]
    obtain ⟨t, ht, hends, hu⟩ := h
    exact ⟨t, ht, hends.of_work, hu⟩
  · rw [h.elim unitChecks_of_idle unitChecks_of_excepting]
    exact ⟨loadRefused_of (z := .word) _, hn _⟩

theorem unitLoad_loads (ha : ea &&& 3#32 = 0#32) (hn : ∀ r, second r) :
    s.UnitLoadsAs kind [s.readRequest s.dataAsi ea 0b10#2 false false] (kind.computes (regMask rd))
      (fun u => u.writeReg rd (s.readWord s.dataAsi ea)) second (s.unitLoad kind rd ea) :=
  loadOne_loads ha hn fun w u => u.writeReg rd w

theorem unitLoadStatus_loads (ha : ea &&& 3#32 = 0#32) (hn : ∀ r, second r) :
    s.UnitLoadsAs kind [s.readRequest s.dataAsi ea 0b10#2 false false] needsAll
      (fun u => { u with status := s.readWord s.dataAsi ea }) second (s.unitLoadStatus kind ea) :=
  loadOne_loads ha hn fun w u => { u with status := w }

theorem unitLoadDouble_loads (ha : ea &&& 7#32 = 0#32)
    (hs : ∀ r, s.SecondLoadRefused kind (evenReg rd) (s.readRequest s.dataAsi ea 0b11#2 false true)
      (s.readRequest s.dataAsi (ea + 4#32) 0b11#2 false false) r → second r) :
    s.UnitLoadsAs kind
      [s.readRequest s.dataAsi ea 0b11#2 false true, s.readRequest s.dataAsi (ea + 4#32) 0b11#2 false false]
      (kind.computes (pairMask rd))
      (fun u => (u.writeReg (evenReg rd) (s.readWord s.dataAsi ea)).writeReg (oddReg rd) (s.readWord s.dataAsi (ea + 4#32)))
      second (s.unitLoadDouble kind rd ea) := by
  rw [State.unitLoadDouble, (aligned_dbl_iff ea).mpr ha]
  refine ⟨fun hr => unitLoad_accepted fun v n => ?_, fun h => ?_⟩
  · have h := loadTwo_ends (s := s.afterWork kind (v, n)) (x := s.dataAsi) (hr _ List.mem_cons_self)
      (hr _ (List.mem_cons_of_mem _ List.mem_cons_self))
      (fun f => State.useFree
        (f.setUnit kind ((f.unit kind).accept fun u => u.writeReg (evenReg rd) (Config.freeWord f.freeIdx))) 1) kind
      fun u => (u.writeReg (evenReg rd) (s.readWord s.dataAsi ea)).writeReg (oddReg rd) (s.readWord s.dataAsi (ea + 4#32))
    rw [unit_afterWork] at h
    simp only [afterWork_dataAsi, afterWork_readWord]
    obtain ⟨t, ht, hends, hu⟩ := h
    exact ⟨t, ht, hends.of_work, hu⟩
  · rw [h.elim unitChecks_of_idle unitChecks_of_excepting]
    exact ⟨loadRefused_of (z := .dbl) _, hs _ (loadTwo_refused s.dataAsi ea kind (evenReg rd) _)⟩

end

/-- Settles O51. -/
theorem unitLoads : Obligations.UnitLoads := by
  unfold Obligations.UnitLoads
  intro s rd rs1 op2 ea even one first second v v'
  have hodd : even + 1#5 = oddReg rd := oddReg_eq rd
  rw [hodd]
  refine List.forall_iff_forall_mem.mp ⟨List.forall_iff_forall_mem.mp ⟨fun ha => ?_, fun ha => ?_, fun ha => ?_⟩,
    List.forall_iff_forall_mem.mp ⟨fun ha => ?_, fun ha => ?_, fun ha => ?_⟩⟩
  · exact unitLoad_loads (kind := .fpu) (ea := s.effAddr rs1 op2) (second := fun _ => _) ha fun _ => nofun
  · exact unitLoadStatus_loads (kind := .fpu) (ea := s.effAddr rs1 op2) (second := fun _ => _) ha fun _ => nofun
  · exact unitLoadDouble_loads (kind := .fpu) (ea := s.effAddr rs1 op2)
      (second := fun r => Instr.lddf rd rs1 op2 = .lddf rd rs1 op2 → s.SecondLoadRefused .fpu even first second r) ha
      fun _ h _ => h
  · exact unitLoad_loads (kind := .cp) (ea := s.effAddr rs1 op2) (second := fun _ => _) ha fun _ => nofun
  · exact unitLoadStatus_loads (kind := .cp) (ea := s.effAddr rs1 op2) (second := fun _ => _) ha fun _ => nofun
  · exact unitLoadDouble_loads (kind := .cp) (ea := s.effAddr rs1 op2)
      (second := fun r => Instr.lddc rd rs1 op2 = .lddc rd rs1 op2 → s.SecondLoadRefused .cp even first second r) ha
      fun _ h _ => h

end Sys2Proof.Machine
end

section
/-! The stores of the FPU and the coprocessor. -/
namespace Sys2Proof.Machine

variable {s : State} {kind : UnitKind} {needs : Word → Bool} {go : State → Result} {x : Asi} {ea : Word}

/-! ### What a unit drives (log 27) -/

theorem keeps_useDriven (u : State) (kind : UnitKind) (k : Nat) :
    u.Keeps (u.useDriven kind k) ∧ u.SameRegsBut (u.useDriven kind k) [] ∧ (u.useDriven kind k).mem = u.mem ∧
      (u.useDriven kind k).bus = u.bus := by
  unfold State.useDriven
  split
  · exact ⟨keeps_useFree u k, sameRegsBut_of_eq rfl rfl rfl, rfl, rfl⟩
  · exact ⟨keeps_useFree u 0, sameRegsBut_of_eq rfl rfl rfl, rfl, rfl⟩

/-- Outside exception mode the unit drives its own word. -/
theorem driven_of_mode (h : (s.unit kind).excMode = false) (k : Nat) (w : Word) : s.driven kind k w = w := by
  rw [State.driven, h, if_neg Bool.false_ne_true]

theorem driven_afterWork {v : Coproc} {n : Nat} (h : v.excMode = false) (k : Nat) (value : Coproc → Word) :
    (s.afterWork kind (v, n)).driven kind k (value ((s.afterWork kind (v, n)).unit kind)) = value v := by
  rw [driven_of_mode (by rw [unit_afterWork]; exact h), unit_afterWork]

/-- Bytes stored and free values used, and the instruction completes. -/
theorem moves_driven {u : State} {n : Nat} {requests : List BusRequest} (hk : s.Keeps u) (hregs : s.SameRegsBut u [])
    (hmem : s.SameMemoryBut u x ea n) (hb : u.bus = s.bus ++ requests) (kind : UnitKind) (k : Nat) :
    s.Moves (u.useDriven kind k).retire.advance [] x ea n requests := by
  obtain ⟨hk', hregs', hmem', hbus'⟩ := keeps_useDriven u kind k
  exact moves_of_keeps (hk.trans hk') (hregs.trans hregs') (hmem.of_mem hmem' hk'.control.platform) (hbus'.trans hb)

theorem readWord_useDriven (u : State) (kind : UnitKind) (k : Nat) (x : Asi) (e : Word) :
    (u.useDriven kind k).retire.advance.readWord x e = u.readWord x e :=
  have hmem := (keeps_useDriven u kind k).2.2.1
  have hplatform := (keeps_useDriven u kind k).1.control.platform
  (readWord_complete _ x e).trans (readWord_congr fun _ _ => readByte_congr hmem hplatform _ _)

/-! ### The writes (rules R369 to R371, R379, R390, R391) -/

/-- A store of one word, its request accepted. -/
theorem storeOne_ends (hm : Memory.wf s.mem = true) {w : Word}
    (hr : s.refuses (s.writeRequest x ea 0b10#2 false false w) = false) (kind : UnitKind) (k : Nat) :
    ∃ t, (s.writeAccess x ea .word false false (bytesOfData w) id fun t1 => (t1.useDriven kind k).complete) = .next t ∧
      s.Moves t [] x ea 4 [s.writeRequest x ea 0b10#2 false false w] ∧ t.readWord x ea = w := by
  have hb : s.dataRequest x ea .word false false (some (busData (bytesOfData w))) =
      s.writeRequest x ea 0b10#2 false false w := by rw [busData_bytesOfData]; rfl
  rw [writeAccess_of_accepted (by rw [hb]; exact hr), hb]
  exact ⟨_, rfl,
    moves_driven ((keeps_request s _).trans (keeps_storeBytes _ _ _ _)) (sameRegsBut_of_eq rfl rfl rfl)
      (sameMemoryBut_storeBytes (s := s.request (s.writeRequest x ea 0b10#2 false false w)) hm x ea (bytesOfData w)) rfl kind k,
    (readWord_useDriven _ kind k x ea).trans
      (readWord_storeBytes (s := s.request (s.writeRequest x ea 0b10#2 false false w)) hm x ea w)⟩

/-- A store of two words, both requests accepted. -/
theorem storeTwo_ends (hm : Memory.wf s.mem = true) {hi lo : Word}
    (h1 : s.refuses (s.writeRequest x ea 0b11#2 false true hi) = false)
    (h2 : s.refuses (s.writeRequest x (ea + 4#32) 0b11#2 false false lo) = false) (kind : UnitKind) (k : Nat) :
    ∃ t, (s.storeTwo x ea hi lo fun t1 => (t1.useDriven kind k).complete) = .next t ∧
      s.Moves t [] x ea 8
        [s.writeRequest x ea 0b11#2 false true hi, s.writeRequest x (ea + 4#32) 0b11#2 false false lo] ∧
      t.readWord x ea = hi ∧ t.readWord x (ea + 4#32) = lo := by
  rw [storeTwo_eq h1, if_neg (by rw [h2]; exact Bool.false_ne_true)]
  obtain ⟨hk, hregs, hb⟩ := two_keeps s x ea (ea + 4#32) (bytesOfData hi) (bytesOfData lo)
    (s.writeRequest x ea 0b11#2 false true hi) (s.writeRequest x (ea + 4#32) 0b11#2 false false lo)
  obtain ⟨hmem, hhi, hlo⟩ := two_words hm x ea hi lo
    (s.writeRequest x ea 0b11#2 false true hi) (s.writeRequest x (ea + 4#32) 0b11#2 false false lo)
  exact ⟨_, rfl, moves_driven hk hregs hmem hb kind k, (readWord_useDriven _ kind k _ _).trans hhi,
    (readWord_useDriven _ kind k _ _).trans hlo⟩

/-- The first of two writes is refused. -/
theorem storeTwo_firstRefused {hi : Word} (h : s.refuses (s.writeRequest x ea 0b11#2 false true hi) = true) (lo : Word)
    (go : State → Result) :
    ∃ t, s.storeTwo x ea hi lo go = .next t ∧ State.Traps .dataAccessException s t ∧ s.SameUnits t ∧
      t.bus = s.bus ++ [s.writeRequest x ea 0b11#2 false true hi] :=
  writeAccess_refused_of_data (z := .dbl) (busData_bytesOfData hi) h

/-! ### At once, after work on the queue, in exception mode -/

/-- The store of an enabled unit, all its requests accepted: the data is the unit's, in exception mode unknown. -/
def State.UnitStoreAccepted {α : Type} (s : State) (kind : UnitKind) (waits : Word → Bool) (value : Coproc → α)
    (ends : State → Coproc → α → Prop) (r : Result) : Prop :=
  (s.UnitIdle kind → ∃ t, r = .next t ∧ ends t (s.unit kind) (value (s.unit kind))) ∧
    (s.UnitReady kind → ∃ t, r = .next t ∧
      (s.UnitExcepted t kind ∨ ∃ u, s.UnitWorked kind u waits ∧ ends t u (value u))) ∧
    (s.UnitExcepting kind → ∃ t d, r = .next t ∧ ends t (s.unit kind) d)

theorem unitStore_accepted {α : Type} {value : Coproc → α} {ends : State → Coproc → α → Prop}
    (hgo : ∀ v n, ∃ t, go (s.afterWork kind (v, n)) = .next t ∧
      ∃ d, (v.excMode = false → d = value v) ∧ ends t v d) :
    s.UnitStoreAccepted kind needs value ends (s.unitChecks kind needs true go) := by
  obtain ⟨now, later⟩ := unitChecks_ends (needs := needs)
    (Q := fun v t => ∃ d, (v.excMode = false → d = value v) ∧ ends t v d) hgo
  refine ⟨fun h => ?_, fun h => ?_, fun h => ?_⟩
  · obtain ⟨t, ht, d, hd, he⟩ := now (.inl h)
    exact ⟨t, ht, hd h.exceptionMode ▸ he⟩
  · obtain ⟨t, ht, hx | ⟨u, hu, d, hd, he⟩⟩ := later h
    · exact ⟨t, ht, .inl hx⟩
    · exact ⟨t, ht, .inr ⟨u, hu, hd hu.exceptionMode ▸ he⟩⟩
  · obtain ⟨t, ht, d, -, he⟩ := now (.inr h)
    exact ⟨t, d, ht, he⟩

/-- Where a store of one word ends. -/
def State.StoreOneEnds (s : State) (kind : UnitKind) (ea : Word) (t : State) (u : Coproc) (w : Word) : Prop :=
  (s.setUnit kind u).Moves t [] s.dataAsi ea 4 [s.writeRequest s.dataAsi ea 0b10#2 false false w] ∧
    t.readWord s.dataAsi ea = w

theorem unitStoreWord_accepts (hm : Memory.wf s.mem = true) (ha : ea &&& 3#32 = 0#32) (value : Coproc → Word)
    (hr : ∀ w, s.refuses (s.writeRequest s.dataAsi ea 0b10#2 false false w) = false) :
    s.UnitStoreAccepted kind needs value (s.StoreOneEnds kind ea) (s.unitStoreWord kind needs ea value) := by
  rw [State.unitStoreWord, (aligned_word_iff ea).mpr ha]
  refine unitStore_accepted fun v n => ?_
  obtain ⟨t, ht, hmoves, hw⟩ := storeOne_ends (s := s.afterWork kind (v, n)) (x := s.dataAsi) hm
    (hr ((s.afterWork kind (v, n)).driven kind 0 (value ((s.afterWork kind (v, n)).unit kind)))) kind 1
  exact ⟨t, ht, _, fun h => driven_afterWork h 0 value, hmoves.of_work, hw⟩

theorem unitStoreWord_refused (ha : ea &&& 3#32 = 0#32) (value : Coproc → Word) (h : s.UnitIdle kind)
    (hr : s.refuses (s.writeRequest s.dataAsi ea 0b10#2 false false (value (s.unit kind))) = true) :
    ∃ t, s.unitStoreWord kind needs ea value = .next t ∧ State.Traps .dataAccessException s t ∧ s.SameUnits t ∧
      t.bus = s.bus ++ [s.writeRequest s.dataAsi ea 0b10#2 false false (value (s.unit kind))] := by
  rw [State.unitStoreWord, (aligned_word_iff ea).mpr ha, unitChecks_of_idle h, driven_of_mode h.exceptionMode]
  exact writeAccess_refused_of_data (z := .word) (busData_bytesOfData _) hr

/-- Where a store of two words ends. -/
def State.StoreTwoEnds (s : State) (kind : UnitKind) (ea : Word) (t : State) (u : Coproc) (d : Word × Word) : Prop :=
  (s.setUnit kind u).Moves t [] s.dataAsi ea 8
      [s.writeRequest s.dataAsi ea 0b11#2 false true d.1, s.writeRequest s.dataAsi (ea + 4#32) 0b11#2 false false d.2] ∧
    t.readWord s.dataAsi ea = d.1 ∧ t.readWord s.dataAsi (ea + 4#32) = d.2

theorem unitStoreDouble_accepts {rd : RegNum} (hm : Memory.wf s.mem = true) (ha : ea &&& 7#32 = 0#32)
    (hr : ∀ w, s.refuses (s.writeRequest s.dataAsi ea 0b11#2 false true w) = false ∧
      s.refuses (s.writeRequest s.dataAsi (ea + 4#32) 0b11#2 false false w) = false) :
    s.UnitStoreAccepted kind (kind.computes (pairMask rd)) (fun u => (u.readReg (evenReg rd), u.readReg (oddReg rd)))
      (s.StoreTwoEnds kind ea) (s.unitStoreDouble kind rd ea) := by
  rw [State.unitStoreDouble, (aligned_dbl_iff ea).mpr ha]
  refine unitStore_accepted fun v n => ?_
  obtain ⟨t, ht, hmoves, hhi, hlo⟩ := storeTwo_ends (s := s.afterWork kind (v, n)) (x := s.dataAsi) hm
    (hr ((s.afterWork kind (v, n)).driven kind 0 (((s.afterWork kind (v, n)).unit kind).readReg (evenReg rd)))).1
    (hr ((s.afterWork kind (v, n)).driven kind 1 (((s.afterWork kind (v, n)).unit kind).readReg (oddReg rd)))).2 kind 2
  exact ⟨t, ht, (_, _), fun h => Prod.ext (driven_afterWork h 0 (·.readReg (evenReg rd)))
    (driven_afterWork h 1 (·.readReg (oddReg rd))), hmoves.of_work, hhi, hlo⟩

theorem unitStoreDouble_idle {rd : RegNum} (ha : ea &&& 7#32 = 0#32) (h : s.UnitIdle kind) :
    s.unitStoreDouble kind rd ea =
      s.storeTwo s.dataAsi ea ((s.unit kind).readReg (evenReg rd)) ((s.unit kind).readReg (oddReg rd))
        fun t => (t.useDriven kind 2).complete := by
  rw [State.unitStoreDouble, (aligned_dbl_iff ea).mpr ha, unitChecks_of_idle h, driven_of_mode h.exceptionMode,
    driven_of_mode h.exceptionMode]

/-- What the double store of an enabled unit to an aligned address does. -/
def State.UnitStoresTwo (s : State) (kind : UnitKind) (rd : RegNum) (ea : Word) (r : Result) : Prop :=
  let first (v : Word) := s.writeRequest s.dataAsi ea 0b11#2 false true v
  let second (v : Word) := s.writeRequest s.dataAsi (ea + 4#32) 0b11#2 false false v
  let ends (t : State) (u : Coproc) (hi lo : Word) : Prop := s.StoreTwoEnds kind ea t u (hi, lo)
  let hi := (s.unit kind).readReg (evenReg rd)
  let lo := (s.unit kind).readReg (oddReg rd)
  ((∀ v, s.refuses (first v) = false ∧ s.refuses (second v) = false) →
    (s.UnitIdle kind → ∃ t, r = .next t ∧ ends t (s.unit kind) hi lo) ∧
    (s.UnitReady kind → ∃ t, r = .next t ∧
      (s.UnitExcepted t kind ∨
        ∃ u, s.UnitWorked kind u (kind.computes (pairMask rd)) ∧
          ends t u (u.readReg (evenReg rd)) (u.readReg (oddReg rd)))) ∧
    (s.UnitExcepting kind → ∃ t hi lo, r = .next t ∧ ends t (s.unit kind) hi lo)) ∧
  (s.UnitIdle kind →
    (s.refuses (first hi) = true →
      ∃ t, r = .next t ∧ State.Traps .dataAccessException s t ∧ s.SameUnits t ∧ t.bus = s.bus ++ [first hi]) ∧
    (s.refuses (first hi) = false → s.refuses (second lo) = true →
      ∃ t, r = .next t ∧ s.EnteredTrap t ∧ t.tt = 0x09#8 ∧ s.SameMemoryBut t s.dataAsi ea 4 ∧
        t.readWord s.dataAsi ea = hi ∧ t.bus = s.bus ++ [first hi, second lo] ∧ s.SameUnits t ∧ t.y = s.y ∧
        s.SameRegsBut t [regIndex (s.psr.cwp - 1#3) 17#5, regIndex (s.psr.cwp - 1#3) 18#5]))

theorem unitStoreDouble_stores {rd : RegNum} (hm : Memory.wf s.mem = true) (ha : ea &&& 7#32 = 0#32) :
    s.UnitStoresTwo kind rd ea (s.unitStoreDouble kind rd ea) := by
  refine ⟨fun hr => ?_, fun h => ?_⟩
  · obtain ⟨idle, ready, excepting⟩ := unitStoreDouble_accepts (kind := kind) (rd := rd) hm ha hr
    refine ⟨idle, ready, fun h => ?_⟩
    obtain ⟨t, ⟨hi, lo⟩, ht, he⟩ := excepting h
    exact ⟨t, hi, lo, ht, he⟩
  · rw [unitStoreDouble_idle ha h]
    exact ⟨fun h1 => storeTwo_firstRefused h1 _ _, fun h1 h2 => storeTwo_secondRefused hm h1 h2 _⟩

/-- What the store of one word of an enabled unit to an aligned address does. -/
def State.UnitStoresOne (s : State) (kind : UnitKind) (ea : Word) (waits : Word → Bool) (value : Coproc → Word)
    (r : Result) : Prop :=
  ea &&& 3#32 = 0#32 →
    ((∀ v, s.refuses (s.writeRequest s.dataAsi ea 0b10#2 false false v) = false) →
      s.UnitStoreAccepted kind waits value (s.StoreOneEnds kind ea) r) ∧
    (s.UnitIdle kind → s.refuses (s.writeRequest s.dataAsi ea 0b10#2 false false (value (s.unit kind))) = true →
      ∃ t, r = .next t ∧ State.Traps .dataAccessException s t ∧ s.SameUnits t ∧
        t.bus = s.bus ++ [s.writeRequest s.dataAsi ea 0b10#2 false false (value (s.unit kind))])

theorem unitStoreWord_stores (hm : Memory.wf s.mem = true) (value : Coproc → Word) :
    s.UnitStoresOne kind ea needs value (s.unitStoreWord kind needs ea value) := fun ha =>
  ⟨unitStoreWord_accepts hm ha value, unitStoreWord_refused ha value⟩

/-- Settles O52. -/
theorem unitStores : Obligations.UnitStores := by
  unfold Obligations.UnitStores
  intro s rd rs1 op2 hm ea even one first second trapRegs
  have hodd : even + 1#5 = oddReg rd := oddReg_eq rd
  rw [hodd]
  refine List.forall_iff_forall_mem.mp ⟨⟨List.forall_iff_forall_mem.mp ⟨?_, ?_⟩, fun ha => ?_⟩,
    ⟨List.forall_iff_forall_mem.mp ⟨?_, ?_⟩, fun ha => ?_⟩⟩
  · exact unitStoreWord_stores (kind := .fpu) (needs := UnitKind.computes .fpu (regMask rd)) (ea := s.effAddr rs1 op2) hm
      (·.readReg rd)
  · exact unitStoreWord_stores (kind := .fpu) (needs := needsAll) (ea := s.effAddr rs1 op2) hm (·.status)
  · exact unitStoreDouble_stores (kind := .fpu) (ea := s.effAddr rs1 op2) hm ha
  · exact unitStoreWord_stores (kind := .cp) (needs := UnitKind.computes .cp (regMask rd)) (ea := s.effAddr rs1 op2) hm
      (·.readReg rd)
  · exact unitStoreWord_stores (kind := .cp) (needs := needsAll) (ea := s.effAddr rs1 op2) hm (·.status)
  · exact unitStoreDouble_stores (kind := .cp) (ea := s.effAddr rs1 op2) hm ha

end Sys2Proof.Machine
end

section
/-! The queue stores of the FPU and the coprocessor (rules R363, R372, R392). -/
namespace Sys2Proof.Machine

variable {s : State} {kind : UnitKind} {x : Asi} {ea : Word}

/-! ### The front of a queue -/

theorem queueFront_of_queue {a w : Word} {rest : List (Word × Word)} (h : (s.unit kind).queue = (a, w) :: rest) :
    s.queueFront kind = (a, w) := by
  rw [State.queueFront, h]

theorem queueFront_cases (s : State) (kind : UnitKind) :
    (s.unit kind).queue = [] ∨
      (s.unit kind).queue.head? = some ((s.queueFront kind).1, (s.queueFront kind).2) := by
  cases h : (s.unit kind).queue with
  | nil => exact .inl rfl
  | cons e rest => exact .inr (by rw [queueFront_of_queue h]; rfl)

theorem popQueue_of_exceptionMode {u : Coproc} {a w : Word} {rest : List (Word × Word)} (h : u.excMode = true)
    (hq : u.queue = (a, w) :: rest) : u.popQueue = { u with queue := rest, excMode := !rest.isEmpty } := by
  rw [Coproc.popQueue, h, hq]
  rfl

/-- Outside exception mode the entry leaves, and the mode stays. -/
theorem popQueue_of_mode {u : Coproc} (h : u.excMode = false) : u.popQueue = { u with queue := u.queue.tail } := by
  rw [Coproc.popQueue, h, Bool.false_and, ← h]

/-! ### The two writes -/

/-- Where an accepted queue store ends. -/
def State.QueueStoreEnds (s : State) (kind : UnitKind) (x : Asi) (ea : Word) (t : State) (a w : Word) : Prop :=
  s.OnlyUnit t kind ∧ s.SameMemoryBut t x ea 8 ∧ t.readWord x ea = a ∧ t.readWord x (ea + 4#32) = w ∧
    s.BusGrows t [s.writeRequest x ea 0b11#2 false true a, s.writeRequest x (ea + 4#32) 0b11#2 false false w]

theorem State.QueueStoreEnds.of_work {t : State} {r : Coproc × Nat} {a w : Word}
    (h : (s.afterWork kind r).QueueStoreEnds kind x ea t a w) : s.QueueStoreEnds kind x ea t a w := by
  obtain ⟨hunit, hmem, ha, hw, hbus⟩ := h
  exact ⟨hunit.of_work, hmem.of_work, ha, hw, hbus.of_work⟩

/-- A unit given a new state, and the instruction completes: memory and the bus stay as they were. -/
theorem setUnit_completes (u : State) (kind : UnitKind) (c : Coproc) (k : Nat) :
    let t := ((u.setUnit kind c).useFree k).retire.advance
    t.mem = u.mem ∧ t.platform = u.platform ∧ t.bus = u.bus ∧ t.signals = u.signals ∧ t.unit kind = c := by
  refine ⟨by simp, by simp, by simp, by simp, ?_⟩
  rw [unit_retire_advance, unit_useFree, unit_setUnit_self]

/-- Both words are written, and the entry leaves. -/
theorem queueStore_ends (hm : Memory.wf s.mem = true) {a w : Word}
    (h1 : s.refuses (s.writeRequest x ea 0b11#2 false true a) = false)
    (h2 : s.refuses (s.writeRequest x (ea + 4#32) 0b11#2 false false w) = false) (kind : UnitKind) (k : Nat) :
    ∃ t, (s.storeTwo x ea a w fun t1 => ((t1.setUnit kind (t1.unit kind).popQueue).useFree k).complete) = .next t ∧
      s.QueueStoreEnds kind x ea t a w ∧ t.unit kind = (s.unit kind).popQueue := by
  rw [storeTwo_eq h1, if_neg (by rw [h2]; exact Bool.false_ne_true)]
  obtain ⟨hk, hregs, hb⟩ := two_keeps s x ea (ea + 4#32) (bytesOfData a) (bytesOfData w)
    (s.writeRequest x ea 0b11#2 false true a) (s.writeRequest x (ea + 4#32) 0b11#2 false false w)
  obtain ⟨hmem, ha, hw⟩ := two_words hm x ea a w
    (s.writeRequest x ea 0b11#2 false true a) (s.writeRequest x (ea + 4#32) 0b11#2 false false w)
  generalize (((s.request (s.writeRequest x ea 0b11#2 false true a)).storeBytes x ea (bytesOfData a)).request
    (s.writeRequest x (ea + 4#32) 0b11#2 false false w)).storeBytes x (ea + 4#32) (bytesOfData w) = u
    at hk hregs hb hmem ha hw ⊢
  obtain ⟨hmem', hplatform', hbus', hsignals', hunit'⟩ := setUnit_completes u kind (u.unit kind).popQueue k
  have hword (e : Word) : _ = u.readWord x e := readWord_congr fun _ _ => readByte_congr hmem' hplatform' _ _
  exact ⟨_, rfl, ⟨onlyUnit_of_keeps hk hregs kind _ k, hmem.of_mem hmem' hplatform', (hword _).trans ha, (hword _).trans hw,
    hbus'.trans hb, hsignals'.trans hk.signals⟩, hunit'.trans (by rw [hk.unit])⟩

/-! ### At once in exception mode, or after work on the queue -/

/-- What a queue store gives of the queue of a unit that has worked, and what is left of it. -/
def QueueStored (ends : Word → Word → Prop) (u v : Coproc) : Prop :=
  (∃ a w rest, u.queue = (a, w) :: rest ∧ ends a w ∧ v = { u with queue := rest }) ∨
    (u.queue = [] ∧ v = u ∧ ∃ a w, ends a w)

/-- What is stored is the front entry, or, of an empty queue, two words of no known value. -/
theorem queueStored_of_mode {u : Coproc} (h : u.excMode = false) (hu : s.unit kind = u) {ends : Word → Word → Prop}
    (he : ends (s.queueFront kind).1 (s.queueFront kind).2) : QueueStored ends u u.popQueue := by
  subst hu
  rw [popQueue_of_mode h]
  cases hq : (s.unit kind).queue with
  | nil => exact .inr ⟨hq, by rw [List.tail_nil, ← hq], _, _, he⟩
  | cons e rest =>
    obtain ⟨a, w⟩ := e
    rw [queueFront_of_queue hq] at he
    exact .inl ⟨a, w, rest, hq, he, rfl⟩

/-- The words that a queue store stores: those at the front of the queue, if it holds any. -/
def Coproc.Fronts (u : Coproc) (a w : Word) : Prop := u.queue = [] ∨ u.queue.head? = some (a, w)

theorem fronts_queueFront (s : State) {v : Coproc} {n : Nat} :
    v.Fronts ((s.afterWork kind (v, n)).queueFront kind).1 ((s.afterWork kind (v, n)).queueFront kind).2 := by
  have h := queueFront_cases (s.afterWork kind (v, n)) kind
  rwa [unit_afterWork] at h

/-- After work on the queue the first request is refused. -/
def State.QueueFirstRefused (s t : State) (kind : UnitKind) (ea : Word) (u : Coproc) (a w : Word) : Prop :=
  u.Fronts a w ∧ State.Traps .dataAccessException s t ∧ t.unit kind = u ∧ (∀ k, k ≠ kind → t.unit k = s.unit k) ∧
    t.bus = s.bus ++ [s.writeRequest s.dataAsi ea 0b11#2 false true a]

/-- After work on the queue the second request is refused. -/
def State.QueueSecondRefused (s t : State) (kind : UnitKind) (ea : Word) (u : Coproc) (a w : Word) : Prop :=
  u.Fronts a w ∧ s.EnteredTrap t ∧ t.tt = 0x09#8 ∧ s.SameMemoryBut t s.dataAsi ea 4 ∧ t.readWord s.dataAsi ea = a ∧
    t.unit kind = u ∧ (∀ k, k ≠ kind → t.unit k = s.unit k) ∧
    t.bus = s.bus ++ [s.writeRequest s.dataAsi ea 0b11#2 false true a,
      s.writeRequest s.dataAsi (ea + 4#32) 0b11#2 false false w] ∧ t.y = s.y ∧
    s.SameRegsBut t [regIndex (s.psr.cwp - 1#3) 17#5, regIndex (s.psr.cwp - 1#3) 18#5]

section

variable (hs : s.psr.s = true) (ha : ea &&& 7#32 = 0#32)

include hs ha

theorem unitStoreQueue_eq :
    s.unitStoreQueue kind ea = s.unitChecks kind needsNone true fun t =>
      t.storeTwo t.dataAsi ea (t.queueFront kind).1 (t.queueFront kind).2 fun t1 =>
        ((t1.setUnit kind (t1.unit kind).popQueue).useFree (if (t.unit kind).queue.isEmpty then 2 else 0)).complete := by
  rw [State.unitStoreQueue, supervisorOnly_of_supervisor hs, (aligned_dbl_iff ea).mpr ha]

/-- In exception mode the front entry is stored. -/
theorem unitStoreQueue_excepting (h : s.UnitExcepting kind) {a w : Word} {rest : List (Word × Word)}
    (hq : (s.unit kind).queue = (a, w) :: rest) :
    s.unitStoreQueue kind ea = s.storeTwo s.dataAsi ea a w fun t1 =>
      ((t1.setUnit kind (t1.unit kind).popQueue).useFree (if (s.unit kind).queue.isEmpty then 2 else 0)).complete := by
  rw [unitStoreQueue_eq hs ha, unitChecks_of_excepting h, queueFront_of_queue hq]

/-- Outside exception mode the unit has worked on its queue before the front is stored. -/
theorem unitStoreQueue_ready {Q : Coproc → State → Prop} (h : s.UnitReady kind)
    (hgo : ∀ v n, v.excMode = false → ∀ k, ∃ t,
      (s.afterWork kind (v, n)).storeTwo s.dataAsi ea ((s.afterWork kind (v, n)).queueFront kind).1
          ((s.afterWork kind (v, n)).queueFront kind).2 (fun t1 =>
            ((t1.setUnit kind (t1.unit kind).popQueue).useFree k).complete) = .next t ∧ Q v t) :
    ∃ t, s.unitStoreQueue kind ea = .next t ∧
      (s.UnitExcepted t kind ∨ ∃ u, s.UnitWorked kind u (fun _ => false) ∧ Q u t) := by
  rw [unitStoreQueue_eq hs ha]
  exact unitChecks_ends_of_ready (needs := needsNone) h fun u n hu => hgo u n hu.exceptionMode _

theorem unitStoreQueue_accepted (hm : Memory.wf s.mem = true)
    (hr : ∀ v, s.refuses (s.writeRequest s.dataAsi ea 0b11#2 false true v) = false ∧
      s.refuses (s.writeRequest s.dataAsi (ea + 4#32) 0b11#2 false false v) = false) :
    (∀ a w rest, s.UnitExcepting kind → (s.unit kind).queue = (a, w) :: rest →
      ∃ t, s.unitStoreQueue kind ea = .next t ∧ s.QueueStoreEnds kind s.dataAsi ea t a w ∧
        t.unit kind = { s.unit kind with queue := rest, excMode := !rest.isEmpty }) ∧
      (s.UnitReady kind → ∃ t, s.unitStoreQueue kind ea = .next t ∧
        (s.UnitExcepted t kind ∨
          ∃ u, s.UnitWorked kind u (fun _ => false) ∧
            QueueStored (s.QueueStoreEnds kind s.dataAsi ea t) u (t.unit kind))) := by
  refine ⟨fun a w rest h hq => ?_, fun h => unitStoreQueue_ready hs ha h fun v n hv k => ?_⟩
  · rw [unitStoreQueue_excepting hs ha h hq]
    obtain ⟨t, ht, he, hu⟩ := queueStore_ends hm (hr a).1 (hr w).2 kind
      (if (s.unit kind).queue.isEmpty then 2 else 0)
    exact ⟨t, ht, he, hu.trans (popQueue_of_exceptionMode h.exceptionMode hq)⟩
  · obtain ⟨t, ht, he, hu⟩ := queueStore_ends (s := s.afterWork kind (v, n)) (x := s.dataAsi) hm (hr _).1 (hr _).2 kind k
    refine ⟨t, ht, ?_⟩
    rw [hu, unit_afterWork]
    exact queueStored_of_mode hv (unit_afterWork s kind (v, n)) he.of_work

/-- The first request is refused after work on the queue. -/
theorem unitStoreQueue_firstRefused (h : s.UnitReady kind)
    (hr : ∀ v, s.refuses (s.writeRequest s.dataAsi ea 0b11#2 false true v) = true) :
    ∃ t, s.unitStoreQueue kind ea = .next t ∧
      (s.UnitExcepted t kind ∨
        ∃ u, s.UnitWorked kind u (fun _ => false) ∧ ∃ a w, s.QueueFirstRefused t kind ea u a w) := by
  refine unitStoreQueue_ready hs ha h fun v n _ k => ?_
  obtain ⟨t, ht, htraps, hunits, hbus⟩ := storeTwo_firstRefused (s := s.afterWork kind (v, n)) (x := s.dataAsi) (hr _) _ _
  exact ⟨t, ht, _, _, fronts_queueFront s, htraps.of_before rfl, (hunits.unit kind).trans (unit_afterWork s kind _),
    fun k hne => (hunits.unit k).trans (unit_afterWork_other s hne _), hbus⟩

/-- The second request is refused after work on the queue. -/
theorem unitStoreQueue_secondRefused (hm : Memory.wf s.mem = true) (h : s.UnitReady kind)
    (hr : ∀ v, s.refuses (s.writeRequest s.dataAsi ea 0b11#2 false true v) = false ∧
      s.refuses (s.writeRequest s.dataAsi (ea + 4#32) 0b11#2 false false v) = true) :
    ∃ t, s.unitStoreQueue kind ea = .next t ∧
      (s.UnitExcepted t kind ∨
        ∃ u, s.UnitWorked kind u (fun _ => false) ∧ ∃ a w, s.QueueSecondRefused t kind ea u a w) := by
  refine unitStoreQueue_ready hs ha h fun v n _ k => ?_
  obtain ⟨t, ht, he, htt, hmem, hword, hbus, hunits, hy, hregs⟩ := storeTwo_secondRefused (s := s.afterWork kind (v, n))
    (asi := s.dataAsi) hm (hr _).1 (hr _).2 _
  exact ⟨t, ht, _, _, fronts_queueFront s, he.of_work, htt, hmem.of_work, hword,
    (hunits.unit kind).trans (unit_afterWork s kind _), fun k hne => (hunits.unit k).trans (unit_afterWork_other s hne _), hbus,
    hy, hregs.of_work⟩

end

/-- What a queue store of an enabled unit with no exception pending does, at a multiple of eight in supervisor mode. -/
def State.StoresQueue (s : State) (kind : UnitKind) (ea : Word) (r : Result) : Prop :=
  let first (v : Word) := s.writeRequest s.dataAsi ea 0b11#2 false true v
  let second (v : Word) := s.writeRequest s.dataAsi (ea + 4#32) 0b11#2 false false v
  ((∀ v, s.refuses (first v) = false ∧ s.refuses (second v) = false) →
    (∀ a w rest, s.UnitExcepting kind → (s.unit kind).queue = (a, w) :: rest →
      ∃ t, r = .next t ∧ s.QueueStoreEnds kind s.dataAsi ea t a w ∧
        t.unit kind = { s.unit kind with queue := rest, excMode := !rest.isEmpty }) ∧
    (s.UnitReady kind → ∃ t, r = .next t ∧
      (s.UnitExcepted t kind ∨
        ∃ u, s.UnitWorked kind u (fun _ => false) ∧
          QueueStored (s.QueueStoreEnds kind s.dataAsi ea t) u (t.unit kind)))) ∧
  (s.UnitReady kind →
    ((∀ v, s.refuses (first v) = true) → ∃ t, r = .next t ∧
      (s.UnitExcepted t kind ∨
        ∃ u a w, s.UnitWorked kind u (fun _ => false) ∧ s.QueueFirstRefused t kind ea u a w)) ∧
    ((∀ v, s.refuses (first v) = false ∧ s.refuses (second v) = true) → ∃ t, r = .next t ∧
      (s.UnitExcepted t kind ∨
        ∃ u a w, s.UnitWorked kind u (fun _ => false) ∧ s.QueueSecondRefused t kind ea u a w))) ∧
  ∀ a w rest, s.UnitExcepting kind → (s.unit kind).queue = (a, w) :: rest →
    (s.refuses (first a) = true →
      ∃ t, r = .next t ∧ State.Traps .dataAccessException s t ∧ s.SameUnits t ∧ t.bus = s.bus ++ [first a]) ∧
    (s.refuses (first a) = false → s.refuses (second w) = true →
      ∃ t, r = .next t ∧ s.EnteredTrap t ∧ t.tt = 0x09#8 ∧ s.SameMemoryBut t s.dataAsi ea 4 ∧
        t.readWord s.dataAsi ea = a ∧ t.bus = s.bus ++ [first a, second w] ∧ s.SameUnits t ∧ t.y = s.y ∧
        s.SameRegsBut t [regIndex (s.psr.cwp - 1#3) 17#5, regIndex (s.psr.cwp - 1#3) 18#5])

theorem unitStoreQueue_stores (hm : Memory.wf s.mem = true) (hs : s.psr.s = true) (ha : ea &&& 7#32 = 0#32)
    (kind : UnitKind) : s.StoresQueue kind ea (s.unitStoreQueue kind ea) := by
  refine ⟨unitStoreQueue_accepted hs ha hm, fun h => ⟨fun hr => ?_, fun hr => ?_⟩, fun a w rest h hq => ?_⟩
  · obtain ⟨t, ht, hx | ⟨u, hu, a, w, hends⟩⟩ := unitStoreQueue_firstRefused hs ha h hr
    · exact ⟨t, ht, .inl hx⟩
    · exact ⟨t, ht, .inr ⟨u, a, w, hu, hends⟩⟩
  · obtain ⟨t, ht, hx | ⟨u, hu, a, w, hends⟩⟩ := unitStoreQueue_secondRefused hs ha hm h hr
    · exact ⟨t, ht, .inl hx⟩
    · exact ⟨t, ht, .inr ⟨u, a, w, hu, hends⟩⟩
  · rw [unitStoreQueue_excepting hs ha h hq]
    exact ⟨fun h1 => storeTwo_firstRefused h1 _ _, fun h1 h2 => storeTwo_secondRefused hm h1 h2 _⟩

/-- Settles O53. -/
theorem queueStores : Obligations.QueueStores := by
  unfold Obligations.QueueStores
  intro s rd rs1 op2 hm hs ea first second ha
  exact List.forall_iff_forall_mem.mp
    ⟨unitStoreQueue_stores (ea := s.effAddr rs1 op2) hm hs ha .fpu,
      unitStoreQueue_stores (ea := s.effAddr rs1 op2) hm hs ha .cp⟩

end Sys2Proof.Machine
end
